-- ==== Sys2Proof/Word.lean ====
section
/-! DEFINITION. The bit-vector types of the block: bytes, 32-bit words, the 64-bit tick accumulator, stream ids. -/

namespace Sys2Proof

/-- A wire or payload byte, `u8` (00_scope.md R8, R10). -/
abbrev Byte := BitVec 8

/-- A control word, a sample or a device tick count, `u32` (00_scope.md R8). -/
abbrev Word := BitVec 32

/-- The tick accumulator's type, `u64` (00_scope.md R8, `ACC_BITS`). -/
abbrev Acc := BitVec 64

/-- A stream id 0..7, the 3-bit port and header field (30_encoding.md R97; 92 D29). -/
abbrev StreamId := BitVec 3

/-- A message id of the fixed table, 0..18 (30_encoding.md R105). -/
abbrev MsgId := Fin 19

end Sys2Proof
end

