-- ==== Sys2Proof/Machine/Constants.lean ====
section
/-! DEFINITION. The parameters to which the spec gives a value (00_scope.md R8) and the message-name table
(30_encoding.md R105). The spec calls the document's literals unaudited (93 U1): they are named here once (log entry 14). -/

namespace Sys2Proof.Machine

/-- `CKSUM_INIT` (00_scope.md R8, 92 D3). -/
def cksumInit : Byte := 0

/-- `TX_LEAD_BYTE` (00_scope.md R8, 92 D23). -/
def txLeadByte : Byte := 0x00

/-- `MSGID_SYNC`, the id of `sync` (00_scope.md R8, 90 C2). -/
def msgidSync : MsgId := 13

/-- `FIRST_SAMPLE_BITS` (00_scope.md R8). -/
def firstSampleBits : Nat := 32

/-- `WIDE_SAMPLE_BITS` (00_scope.md R8). -/
def wideSampleBits : Nat := 32

/-- `NARROW_SAMPLE_BITS` (00_scope.md R8). -/
def narrowSampleBits : Nat := 12

/-- `WIDE_THRESHOLD_BITS` (00_scope.md R8, 92 D12). -/
def wideThresholdBits : Nat := 40

/-- `ROLL_ADD` (00_scope.md R8, 90 C3): one less than the tick space, kept as the spec writes it. -/
def rollAdd : Nat := 2 ^ 32 - 1

/-- `TICK_SPACE` (00_scope.md R8, 92 D19). -/
def tickSpace : Nat := 2 ^ 32

/-- `HALF_SPACE` (00_scope.md R8, 92 D19). -/
def halfSpace : Nat := 2 ^ 31

/-- `DRIFT_LIMIT_S`, in seconds (00_scope.md R8). -/
def driftLimit : Rat := 1

/-- `REGRESS_LIMIT_S`, in seconds (00_scope.md R8). -/
def regressLimit : Rat := 1 / 2

/-- `NAME[0..18]`: ordinal = wire message id (30_encoding.md R105, 10_state.md R33). -/
def nameTable : List String :=
  ["talk", "over", "bad", "version", "start", "stop", "set", "dir", "query", "info", "dig", "wav", "point", "sync",
    "avg", "timer", "event", "resetevents", "trigger"]

/-- `N_MSG` (00_scope.md R8). -/
def nMsg : Nat := 19

end Sys2Proof.Machine
end

