-- ==== Sys2Proof/Syntax.lean ====
section
/-! DEFINITION. The syntax: the input events of 10_state.md R38 and one constructor of `Instr` per row of
spec/opcode_table.json. -/

namespace Sys2Proof

/-- SEND's first operand: a message name or a numeric id (41_codec.md R138). -/
inductive MsgRef where
  /-- A message name. -/
  | name (s : String)
  /-- A numeric id. -/
  | id (n : Nat)
deriving DecidableEq, Repr

/-- A payload of at least one byte: header byte and the bytes after it (43_packet_decode.md R180, `len(p) >= 1`). -/
structure Payload where
  /-- `p[0]`, the header byte. -/
  hdr : Byte
  /-- `p[1..]`. -/
  rest : List Byte
deriving DecidableEq, Repr

/-- The payload as the byte sequence it is. -/
abbrev Payload.bytes (p : Payload) : List Byte := p.hdr :: p.rest

/-- A received byte with the host wall-clock reading its RXBYTE step is given (10_state.md R39). -/
structure RxByte where
  /-- The byte. -/
  b : Byte
  /-- Host wall-clock time in seconds at that step. -/
  now : Rat
deriving DecidableEq, Repr

/-- The six kinds of input event; a step consumes exactly one (10_state.md R38). -/
inductive Event where
  /-- A new link session opens (70 R290). -/
  | reset
  /-- A byte from the device, with the host's clock reading (42 R150). -/
  | rxbyte (b : Byte) (now : Rat)
  /-- The verification option (42 R163). -/
  | setverify (v : Bool)
  /-- Convert a device timestamp (44 R240). -/
  | realtime (ts : Word) (sid : StreamId)
  /-- Send a control message; `none` is the absent value (41 R138 to R140). -/
  | send (m : MsgRef) (value : Option Word)
  /-- Checksum a byte sequence (41 R130). -/
  | cksum (bytes : List Byte)
deriving DecidableEq, Repr

/-- One constructor per row of spec/opcode_table.json. HDR rows: the packet an accepted payload holds. TOKEN rows: a
received byte of a class, with its step's clock reading. EVENT rows: the input events. INTERNAL rows: the operations
one step invokes on another's behalf. -/
inductive Instr where
  /-- HDR `talk` (R186). -/
  | talk (seq : Byte) (words : List Word)
  /-- HDR `over` (R187; `over` itself is a keyword). -/
  | overMsg (seq : Byte) (words : List Word)
  /-- HDR `bad` (R188). -/
  | bad (seq : Byte) (words : List Word)
  /-- HDR `version` (R189). -/
  | version (seq : Byte) (words : List Word)
  /-- HDR `start` (R190). -/
  | start (seq : Byte) (words : List Word)
  /-- HDR `stop` (R191). -/
  | stop (seq : Byte) (words : List Word)
  /-- HDR `set` (R192). -/
  | set (seq : Byte) (words : List Word)
  /-- HDR `dir` (R193). -/
  | dir (seq : Byte) (words : List Word)
  /-- HDR `query` (R194). -/
  | query (seq : Byte) (words : List Word)
  /-- HDR `info` (R195). -/
  | info (seq : Byte) (words : List Word)
  /-- HDR `dig` (R196). -/
  | dig (seq : Byte) (words : List Word)
  /-- HDR `wav` (R197). -/
  | wav (seq : Byte) (words : List Word)
  /-- HDR `point` (R198). -/
  | point (seq : Byte) (words : List Word)
  /-- HDR `sync` (R199), with the clock reading of the step that decodes it. -/
  | sync (seq : Byte) (words : List Word) (now : Rat)
  /-- HDR `avg` (R200). -/
  | avg (seq : Byte) (words : List Word)
  /-- HDR `timer` (R201). -/
  | timer (seq : Byte) (words : List Word)
  /-- HDR `event` (R202). -/
  | event (seq : Byte) (words : List Word)
  /-- HDR `resetevents` (R203). -/
  | resetevents (seq : Byte) (words : List Word)
  /-- HDR `trigger` (R204). -/
  | trigger (seq : Byte) (words : List Word)
  /-- HDR `ctrl_unassigned` (R184): id 19..127 and the sequence byte. -/
  | ctrlUnassigned (id : BitVec 7) (seq : Byte)
  /-- HDR `stream` (R207): stream id, leading nibble, later payload bytes. -/
  | stream (sid : StreamId) (nibble : BitVec 4) (rest : List Byte)
  /-- TOKEN `byte_EOP` (R95). -/
  | byteEOP (b : Byte) (now : Rat)
  /-- TOKEN `byte_ESC` (R95). -/
  | byteESC (b : Byte) (now : Rat)
  /-- TOKEN `byte_DATA` (R95). -/
  | byteDATA (b : Byte) (now : Rat)
  /-- EVENT `RESET` (R290). -/
  | reset
  /-- EVENT `RXBYTE` (R150). -/
  | rxbyte (b : Byte) (now : Rat)
  /-- EVENT `SETVERIFY` (R163). -/
  | setverify (v : Bool)
  /-- EVENT `REALTIME` (R246). -/
  | realtime (ts : Word) (sid : StreamId)
  /-- EVENT `SEND` (R140). -/
  | send (m : MsgRef) (value : Option Word)
  /-- EVENT `CKSUM` (R130). -/
  | cksum (bytes : List Byte)
  /-- INTERNAL `ESCAPE` (R133). -/
  | escape (bytes : List Byte)
  /-- INTERNAL `UNESCAPE` (R135). -/
  | unescape (bytes : List Byte)
  /-- INTERNAL `BUILDFRAME` (R137). -/
  | buildframe (id seq : Byte) (words : List Word)
  /-- INTERNAL `TXSEQ` (R139). -/
  | txseq
  /-- INTERNAL `SCAN` (R169); each byte of the buffer with its step's clock reading. -/
  | scan (buffer : List RxByte)
  /-- INTERNAL `CLASSIFY` (R180). -/
  | classify (p : Payload) (now : Rat)
  /-- INTERNAL `CTRL` (R183). -/
  | ctrl (p : Payload) (now : Rat)
  /-- INTERNAL `STRM` (R207). -/
  | strm (p : Payload)
  /-- INTERNAL `SYNC` (R236). -/
  | clockSync (t : Word) (now : Rat)
deriving DecidableEq, Repr

/-- The instruction an input event is (the EVENT rows of the table, 10_state.md R38). -/
def Event.toInstr : Event → Instr
  | .reset => .reset
  | .rxbyte b now => .rxbyte b now
  | .setverify v => .setverify v
  | .realtime ts sid => .realtime ts sid
  | .send m value => .send m value
  | .cksum bytes => .cksum bytes

/-- The row's mnemonic in spec/opcode_table.json. -/
def Instr.mnemonic : Instr → String
  | .talk .. => "talk"
  | .overMsg .. => "over"
  | .bad .. => "bad"
  | .version .. => "version"
  | .start .. => "start"
  | .stop .. => "stop"
  | .set .. => "set"
  | .dir .. => "dir"
  | .query .. => "query"
  | .info .. => "info"
  | .dig .. => "dig"
  | .wav .. => "wav"
  | .point .. => "point"
  | .sync .. => "sync"
  | .avg .. => "avg"
  | .timer .. => "timer"
  | .event .. => "event"
  | .resetevents .. => "resetevents"
  | .trigger .. => "trigger"
  | .ctrlUnassigned .. => "ctrl_unassigned"
  | .stream .. => "stream"
  | .byteEOP .. => "byte_EOP"
  | .byteESC .. => "byte_ESC"
  | .byteDATA .. => "byte_DATA"
  | .reset .. => "RESET"
  | .rxbyte .. => "RXBYTE"
  | .setverify .. => "SETVERIFY"
  | .realtime .. => "REALTIME"
  | .send .. => "SEND"
  | .cksum .. => "CKSUM"
  | .escape .. => "ESCAPE"
  | .unescape .. => "UNESCAPE"
  | .buildframe .. => "BUILDFRAME"
  | .txseq .. => "TXSEQ"
  | .scan .. => "SCAN"
  | .classify .. => "CLASSIFY"
  | .ctrl .. => "CTRL"
  | .strm .. => "STRM"
  | .clockSync .. => "SYNC"

end Sys2Proof
end

