-- ==== Sys2Proof/Machine/Operands.lean ====
section
/-! DEFINITION. Operand assembly: big-endian words, header fields, the value stream and its samples (20_memory.md R62
to R68, 30_encoding.md R97 to R102, 43_packet_decode.md R205 to R208), and SEND's name resolution (41_codec.md R138). -/

namespace Sys2Proof.Machine

/-- `be32` (00_scope.md R11): four bytes, the first the most significant. -/
def be32 (b0 b1 b2 b3 : Byte) : Word := b0 ++ b1 ++ b2 ++ b3

/-- `bytes_be32` (00_scope.md R11). -/
def bytesBe32 (w : Word) : List Byte :=
  [w.extractLsb' 24 8, w.extractLsb' 16 8, w.extractLsb' 8 8, w.extractLsb' 0 8]

/-- The words of a byte sequence: groups of four bytes; a last group of one to three bytes forms no word
(20_memory.md R67, 30_encoding.md R101). -/
def wordsOf : List Byte → List Word
  | b0 :: b1 :: b2 :: b3 :: rest => be32 b0 b1 b2 b3 :: wordsOf rest
  | _ => []

/-- The stream id of a header byte, bits 6..4 (30_encoding.md R97). -/
def headerSid (h : Byte) : StreamId := h.extractLsb' 4 3

/-- The leading nibble of the value stream, header bits 3..0 (20_memory.md R64). -/
def headerNibble (h : Byte) : BitVec 4 := h.extractLsb' 0 4

/-- The header byte of a stream packet: bit 7 set, stream id, nibble (30_encoding.md R97, R100). -/
def streamHeader (sid : StreamId) (nibble : BitVec 4) : Byte := (1#1) ++ sid ++ nibble

/-- The bits of a value, most significant first (20_memory.md R63). -/
def bitsMsb {n : Nat} (v : BitVec n) : List Bool := (List.range n).map v.getMsbD

/-- `uint` (00_scope.md R11): the value of a bit string, most significant bit first. -/
def uint (bits : List Bool) : Nat := bits.foldl (fun acc b => 2 * acc + b.toNat) 0

/-- The value stream `V` (43 R205): the nibble's bits, then those of every later byte. -/
def valueStream (nibble : BitVec 4) (rest : List Byte) : List Bool := bitsMsb nibble ++ rest.flatMap bitsMsb

/-- The width of a sample that starts with `unread` bits left (43 R206). -/
def sampleWidth (first : Bool) (unread : Nat) : Nat :=
  if first then firstSampleBits else if unread ≤ wideThresholdBits then wideSampleBits else narrowSampleBits

/-- The loop of STRM (43 R207) on the unread bits: a sample that does not fit ends it and its bits are dropped (R208).
`fuel` bounds the turns; the number of bits is always enough. -/
def samplesLoop : Nat → Bool → List Bool → List Word
  | 0, _, _ => []
  | fuel + 1, first, bits =>
    let w := sampleWidth first bits.length
    if bits.length < w then []
    else BitVec.ofNat 32 (uint (bits.take w)) :: samplesLoop fuel false (bits.drop w)

/-- The samples of a value stream (43 R207). -/
def samplesOf (bits : List Bool) : List Word := samplesLoop bits.length true bits

/-- `resolve` (41 R138): the ordinal of a name in `NAME`, or a numeric id that is at most 18; otherwise none. -/
def resolve : MsgRef → Option MsgId
  | .name s =>
    match nameTable.idxOf? s with
    | some i => if h : i < 19 then some ⟨i, h⟩ else none
    | none => none
  | .id n => if h : n < 19 then some ⟨n, h⟩ else none

end Sys2Proof.Machine
end

