-- ==== Sys2Proof/Config.lean ====
section
/-! DEFINITION. What the spec leaves to the environment: the OPEN parameters of 00_scope.md R7 and R8, and the two
reset values of 10_state.md R20 it leaves unspecified. Opaque constants: nothing can be proved of their values. -/

namespace Sys2Proof

/-- The OPEN parameters of one block (00_scope.md R8). They are fixed for the life of the block (70 R294); State
carries them in the field `par`, so that every statement about all states is about all parameter values. -/
structure Params where
  /-- `EOP`, the frame delimiter byte. -/
  eop : Byte
  /-- `ESC`, the escape byte. -/
  esc : Byte
  /-- `CLOCK_HZ`, device ticks per second. -/
  clockHz : Nat
  /-- `SYNC_PERIOD_TICKS`, the expected ticks between syncs. -/
  syncPeriod : Nat
  /-- `SYNC_TOL_TICKS`, the half-width of the sanity window. -/
  syncTol : Nat
deriving DecidableEq, Repr

/-- What 00_scope.md R7 and R8 require of the OPEN parameters: `EOP != ESC`, and `CLOCK_HZ` positive. -/
abbrev Params.WF (P : Params) : Prop := P.eop ≠ P.esc ∧ 0 < P.clockHz

/-- `EOP` of the block that `State.reset` describes (OPEN, 92 D2). -/
opaque Config.eop : Byte

/-- The distance from `EOP` to `ESC`, less one, of that block: any distinct `ESC` is reached by one value. -/
opaque Config.escGap : Fin 255

/-- `CLOCK_HZ` less one of that block (OPEN, 92 D17). -/
opaque Config.clockHzPred : Nat

/-- `SYNC_PERIOD_TICKS` of that block (OPEN, 92 D17). -/
opaque Config.syncPeriod : Nat

/-- `SYNC_TOL_TICKS` of that block (OPEN, 92 D17). -/
opaque Config.syncTol : Nat

/-- The parameters of the block that `State.reset` describes: any that meet `Params.WF` (log entry 1). -/
def Config.params : Params :=
  { eop := Config.eop
    esc := Config.eop + BitVec.ofNat 8 (Config.escGap.val + 1)
    clockHz := Config.clockHzPred + 1
    syncPeriod := Config.syncPeriod
    syncTol := Config.syncTol }

/-- `lastSyncTs` after reset: unspecified (10_state.md R20; 92 D32; 93 U7). No rule reads it before SYNC writes it.
DESIGN CHOICE: one opaque value (log entry 2). -/
opaque Config.lastSyncTsAtReset : Word

/-- `firstSyncWall` after reset: unspecified (10_state.md R20; 92 D32; 93 U7). DESIGN CHOICE: one opaque value
(log entry 3). -/
opaque Config.firstSyncWallAtReset : Rat

end Sys2Proof
end

