-- ==== Sys2Proof/Machine/State.lean ====
section
/-! DEFINITION. The state of the block as plain data (10_state.md R20), what it outputs (R40), the ten events
(60_exceptions.md R261), the ways a meaning can stop, and the state after reset. -/

namespace Sys2Proof.Machine

/-- The scanner's control state `st` (10_state.md R22). -/
inductive ScanState where
  /-- Discard bytes until `EOP`. -/
  | seekStart
  /-- The next byte is the lead checksum byte. -/
  | readLead
  /-- Accumulate the escaped payload. -/
  | collecting
  /-- The next byte is the trailing checksum byte. -/
  | readTrail
deriving DecidableEq, Repr

/-- The ten events of 60_exceptions.md R261 with the information each records. -/
inductive Ev where
  /-- `EV_EMPTY_PAYLOAD` (R263). -/
  | emptyPayload
  /-- `EV_BAD_CHECKSUM` (R264): received byte, computed value, payload length. -/
  | badChecksum (expected computed : Byte) (length : Nat)
  /-- `EV_SHORT_CONTROL` (R265): the header byte. -/
  | shortControl (hdr : Byte)
  /-- `EV_BAD_CONTROL_ID` (R266): id and sequence byte. -/
  | badControlId (id seq : Byte)
  /-- `EV_SYNC_NO_WORD` (R267). -/
  | syncNoWord
  /-- `EV_SYNC_OUT_OF_WINDOW` (R268): elapsed ticks. -/
  | syncOutOfWindow (elapsed : Nat)
  /-- `EV_DRIFT_CORRECTED` (R269): drift in seconds, adjustment in ticks. -/
  | driftCorrected (drift : Rat) (adj : Int)
  /-- `EV_TIME_REGRESSION` (R270): stream, previous and current seconds, previous and current device timestamp. -/
  | timeRegression (sid : StreamId) (previous current : Rat) (previousTs currentTs : Word)
  /-- `EV_NOT_SYNCED` (R271): the operands. -/
  | notSynced (ts : Word) (sid : StreamId)
  /-- `EV_UNKNOWN_MESSAGE_NAME` (R272): the argument. -/
  | unknownMessageName (m : MsgRef)
deriving DecidableEq, Repr

/-- An item on one of the six output streams (10_state.md R40). -/
inductive Output where
  /-- `Frame(p)` on `frame_out`. -/
  | frame (p : List Byte)
  /-- `ControlPacket` on `ctrl_out`. -/
  | ctrl (messageId : MsgId) (sequenceId : Byte) (words : List Word)
  /-- `StreamPacket` on `strm_out`. -/
  | strm (streamId : StreamId) (samples : List Word)
  /-- `RealTime` on `rt_out`. -/
  | rt (sid : StreamId) (ticks : Int) (seconds : Rat)
  /-- `TxFrame` on `tx_out`. -/
  | tx (bytes : List Byte)
  /-- An event on `ev_out`. -/
  | ev (e : Ev)
deriving DecidableEq, Repr

/-- What an operation returned (the spec's `return`; `cksum_out` of 10_state.md R40). -/
inductive Result where
  /-- The operation returns nothing. -/
  | none
  /-- `CKSUM`'s value on `cksum_out` (41 R130). -/
  | cksum (v : Byte)
  /-- The byte sequence ESCAPE, UNESCAPE or BUILDFRAME returns. -/
  | bytes (bs : List Byte)
  /-- `next(txSeq)`, TXSEQ's value (41 R139). -/
  | seq (v : Byte)
  /-- SEND's success or failure (41 R140). -/
  | sent (ok : Bool)
  /-- SCAN's frames and remainder (42 R169). -/
  | scanned (frames : List (List Byte)) (remainder : List Byte)
deriving DecidableEq, Repr

/-- Faults: there are none. No event stops the block (60_exceptions.md R260) and no input byte sequence faults it
(42 R164); the type has no constructor, so that no meaning can raise one. Safe. -/
inductive Fault where
deriving DecidableEq, Repr

/-- Refusals. No instruction that an input event or a payload decodes to is refused. -/
inductive Refusal where
  /-- Raised by an arm of `exec` whose instruction has no meaning yet; no arm raises it. Safe. -/
  | notModelled (mnemonic : String)
  /-- Raised by a TOKEN row's meaning on a term whose byte is not of the row's class (log entry 9). Safe. -/
  | tokenClassMismatch
  /-- Raised by `ctrl_unassigned`'s meaning on a term whose id is one of the 19 assigned ones (log entry 10). Safe. -/
  | assignedControlId
deriving DecidableEq, Repr

/-- The whole state: the registers of 10_state.md R20 (`link` is out of scope, R21) and the model's own four fields
`par`, `inbox`, `outs`, `result` (log entries 1, 4, 5, 6). -/
structure State where
  /-- `st`, the scanner's control state. -/
  st : ScanState
  /-- `esc`, the escape flag. -/
  esc : Bool
  /-- `cks`, the running checksum. -/
  cks : Byte
  /-- `pay`, the payload buffer. -/
  pay : List Byte
  /-- `raw`, the ghost register: the bytes consumed since the opening `EOP` of the frame in progress. -/
  raw : List Byte
  /-- `verifyEn`, checksum verification on. -/
  verifyEn : Bool
  /-- `lastSeq`, the last packet number seen. -/
  lastSeq : Byte
  /-- `synced`, the clock converter's state flag. -/
  synced : Bool
  /-- `tickAcc`, device ticks since the first sync. -/
  tickAcc : Acc
  /-- `lastSyncTs`, the device tick counter at the last sync. -/
  lastSyncTs : Word
  /-- `firstSyncWall`, host seconds at the first sync. -/
  firstSyncWall : Rat
  /-- `lastRealTime[0..7]`, seconds. -/
  lastRealTime : Vector Rat 8
  /-- `lastDevTs[0..7]`, device ticks. -/
  lastDevTs : Vector Word 8
  /-- `txSeq`, the transmit sequence counter. -/
  txSeq : Byte
  /-- The model's own: the OPEN parameters of this block. -/
  par : Params
  /-- The model's own: input events presented and not yet consumed, the next one first. -/
  inbox : List Event
  /-- The model's own: everything output so far, the oldest first. -/
  outs : List Output
  /-- The model's own: what the last operation returned. -/
  result : Result
deriving DecidableEq, Repr

/-- The block right after reset (10_state.md R20; 70 R290): no input presented, nothing output. -/
def State.reset : State :=
  { st := .seekStart
    esc := false
    cks := 0
    pay := []
    raw := []
    verifyEn := true
    lastSeq := 0
    synced := false
    tickAcc := 0
    lastSyncTs := Config.lastSyncTsAtReset
    firstSyncWall := Config.firstSyncWallAtReset
    lastRealTime := Vector.replicate 8 0
    lastDevTs := Vector.replicate 8 0
    txSeq := 0
    par := Config.params
    inbox := []
    outs := []
    result := .none }

end Sys2Proof.Machine
end

