-- ==== Sys2Proof/Machine/Flags.lean ====
section
/-! DEFINITION. The conditions the block tests. It has no arithmetic condition codes (10_state.md R29); its flags are
`esc`, `verifyEn` and `synced`, and these are the tests made on them and on the data: byte class, frame verdict, sync
window, drift, regression. Also the codes and levels of the ten events (60_exceptions.md R261). -/

namespace Sys2Proof.Machine

/-- The class of a received byte (30_encoding.md R95). -/
inductive ByteClass where
  /-- Equal to the parameter `EOP`. -/
  | eop
  /-- Equal to `ESC`. -/
  | esc
  /-- Any other value. -/
  | data
deriving DecidableEq, Repr

/-- The class of a byte (30 R95). -/
def byteClass (P : Params) (b : Byte) : ByteClass :=
  if b = P.eop then .eop else if b = P.esc then .esc else .data

/-- What becomes of a completed frame (42 R158 to R161). -/
inductive Verdict where
  /-- No payload byte (R159). -/
  | empty
  /-- Checksum mismatch (R160). -/
  | rejected
  /-- Accepted (R161), with its non-empty payload. -/
  | accepted (p : Payload)
deriving DecidableEq, Repr

/-- The verdict on payload `pay` with computed checksum `cks` and received trailing byte `b` (42 R159 to R161): the
empty test first; then reject exactly when verification is on, `b` is not 0 and `b` differs from `cks`. -/
def verdict (verifyEn : Bool) (cks : Byte) (pay : List Byte) (b : Byte) : Verdict :=
  match pay with
  | [] => .empty
  | h :: t => if verifyEn = true ∧ b ≠ 0 ∧ b ≠ cks then .rejected else .accepted ⟨h, t⟩

/-- The elapsed ticks of a sync lie outside the sanity window (44 R234): the window is closed. -/
def outOfWindow (P : Params) (elapsed : Nat) : Bool :=
  decide (|(elapsed : Int) - (P.syncPeriod : Int)| > (P.syncTol : Int))

/-- The drift calls for a correction (44 R235): strictly more than the limit. -/
def drifted (drift : Rat) : Bool := decide (|drift| > driftLimit)

/-- A computed time regresses against the stream's previous one (44 R245): strictly more than the limit. -/
def regressed (previous seconds : Rat) : Bool := decide (previous - seconds > regressLimit)

/-- Event levels (60 R261). -/
inductive Level where
  /-- Reported as a warning. -/
  | warning
  /-- Reported as an error. -/
  | error
deriving DecidableEq, Repr

/-- The event's code (60 R261). -/
def Ev.code : Ev → Byte
  | .emptyPayload => 0x01
  | .badChecksum .. => 0x02
  | .shortControl .. => 0x03
  | .badControlId .. => 0x04
  | .syncNoWord => 0x05
  | .syncOutOfWindow .. => 0x10
  | .driftCorrected .. => 0x11
  | .timeRegression .. => 0x12
  | .notSynced .. => 0x13
  | .unknownMessageName .. => 0x20

/-- The event's level (60 R261). -/
def Ev.level : Ev → Level
  | .emptyPayload => .warning
  | .badChecksum .. => .warning
  | .shortControl .. => .warning
  | .badControlId .. => .error
  | .syncNoWord => .warning
  | .syncOutOfWindow .. => .warning
  | .driftCorrected .. => .error
  | .timeRegression .. => .warning
  | .notSynced .. => .error
  | .unknownMessageName .. => .error

end Sys2Proof.Machine
end

