-- ==== Sys2Proof/Machine/Ops.lean ====
section
/-! DEFINITION. The named operations the meanings are written over: appending to the output streams (raising an event
is `State.emit`, the block's whole exception mechanism, 60_exceptions.md R260), the codec, the scanner's cases, the
packet decoder, the clock converter, reset. Each follows the pseudocode of the rule it cites. -/

namespace Sys2Proof.Machine

/-! ### Outputs and events -/

/-- Append an item to the outputs (00_scope.md R14). -/
def State.output (o : Output) (s : State) : State := { s with outs := s.outs ++ [o] }

/-- `emit EV_x(info)`: the event is appended to `ev_out` and nothing else changes: no control transfer, no saved
state, no mode (60 R260, R275). There is no return operation (60 R276). -/
def State.emit (e : Ev) (s : State) : State := s.output (.ev e)

/-- Emit an event when a condition holds. -/
def State.emitIf (c : Bool) (e : Ev) (s : State) : State := if c then s.emit e else s

/-- Record what the operation returns. -/
def State.withResult (r : Result) (s : State) : State := { s with result := r }

/-- The operation is done: the next state, with what it returned. -/
def complete (r : Result) (s : State) : Host.Outcome State Fault Refusal := .next (s.withResult r)

/-! ### Codec (41_codec.md) -/

/-- `rotl8` (00_scope.md R12): rotate left by one, the evicted high bit into bit 0. -/
def rotl8 (a : Byte) : Byte := (a <<< 1) + (a >>> 7)

/-- `ckstep` (41 R131): rotate, then add the byte modulo 256. -/
def ckstep (a b : Byte) : Byte := rotl8 a + b

/-- `CKSUM` (41 R130). -/
def cksum (bytes : List Byte) : Byte := bytes.foldl ckstep cksumInit

/-- One byte of `ESCAPE` (41 R133). -/
def escapeByte (P : Params) (b : Byte) : List Byte := if b = P.esc ∨ b = P.eop then [P.esc, b] else [b]

/-- `ESCAPE` (41 R133). -/
def escape (P : Params) (bytes : List Byte) : List Byte := bytes.flatMap (escapeByte P)

/-- One turn of `UNESCAPE`'s loop (41 R135) on (out, e). -/
def unescapeStep (P : Params) (acc : List Byte × Bool) (b : Byte) : List Byte × Bool :=
  if acc.2 then (acc.1 ++ [b], false) else if b = P.esc then (acc.1, true) else (acc.1 ++ [b], false)

/-- `UNESCAPE`'s loop from the start: what it has output, and whether an `ESC` is pending. -/
def unescapeRun (P : Params) (bytes : List Byte) : List Byte × Bool := bytes.foldl (unescapeStep P) ([], false)

/-- `UNESCAPE` (41 R135): a dangling final `ESC` is dropped. -/
def unescape (P : Params) (bytes : List Byte) : List Byte := (unescapeRun P bytes).1

/-- The payload BUILDFRAME frames (41 R137): id, sequence byte, big-endian words. -/
def framePayload (id seq : Byte) (words : List Word) : List Byte := id :: seq :: words.flatMap bytesBe32

/-- A wire frame (30 R90) around an escaped payload, with the checksum over the escaped bytes (90 C1). -/
def wireFrame (P : Params) (lead : Byte) (escaped : List Byte) : List Byte :=
  [P.eop, lead] ++ escaped ++ [P.eop, cksum escaped]

/-- `BUILDFRAME` (41 R137). -/
def buildFrame (P : Params) (id seq : Byte) (words : List Word) : List Byte :=
  wireFrame P txLeadByte (escape P (framePayload id seq words))

/-- `next` (41 R139): 1..255, skipping 0. -/
def nextSeq (s : Byte) : Byte := if s = 255 then 1 else s + 1

/-- TXSEQ: `txSeq <- next(txSeq)` (41 R139). -/
def State.advanceSeq (s : State) : State := { s with txSeq := nextSeq s.txSeq }

/-- SEND of a resolved id: `txSeq` has the new value when the frame is built (41 R140). -/
def State.sendFrame (id : MsgId) (value : Option Word) (s : State) : State :=
  s.advanceSeq.output
    (.tx (buildFrame s.par (BitVec.ofNat 8 id.val) s.advanceSeq.txSeq value.toList))

/-! ### Clock converter (44_clock.md) -/

/-- Elapsed ticks of a sync (44 R232), in unbounded integers; the rollover arm keeps the literal `ROLL_ADD`. -/
def elapsedTicks (last t : Word) : Nat :=
  if last.toNat ≤ t.toNat then t.toNat - last.toNat else t.toNat + (rollAdd - last.toNat)

/-- `seconds(k)`, exact (44 R229). -/
def secondsOf (P : Params) (ticks : Int) : Rat := (ticks : Rat) / (P.clockHz : Rat)

/-- `trunc` (00_scope.md R12): toward zero. -/
def truncRat (q : Rat) : Int := q.num.tdiv q.den

/-- The first SYNC (44 R231). -/
def State.firstSync (t : Word) (now : Rat) (s : State) : State :=
  { s with firstSyncWall := now, lastSyncTs := t, tickAcc := 0, synced := true }

/-- Accumulate (44 R233): modulo 2^64. -/
def State.accumulate (t : Word) (elapsed : Nat) (s : State) : State :=
  { s with tickAcc := BitVec.ofNat 64 (s.tickAcc.toNat + elapsed), lastSyncTs := t }

/-- Device-derived less wall-derived seconds (44 R235). -/
def State.drift (now : Rat) (s : State) : Rat := secondsOf s.par s.tickAcc.toNat - (now - s.firstSyncWall)

/-- `tickAcc <- max(0, tickAcc - adj) mod 2^64` (44 R235). -/
def State.adjust (adj : Int) (s : State) : State :=
  { s with tickAcc := BitVec.ofNat 64 (max 0 ((s.tickAcc.toNat : Int) - adj)).toNat }

/-- The drift correction (44 R235): adjust, then report. -/
def State.correctDrift (now : Rat) (s : State) : State :=
  let drift := s.drift now
  if drifted drift then
    let adj := truncRat (drift * (s.par.clockHz : Rat))
    (s.adjust adj).emit (.driftCorrected drift adj)
  else s

/-- SYNC of a synced converter (44 R232 to R235, in that order). -/
def State.laterSync (t : Word) (now : Rat) (s : State) : State :=
  let elapsed := elapsedTicks s.lastSyncTs t
  ((s.accumulate t elapsed).emitIf (outOfWindow s.par elapsed) (.syncOutOfWindow elapsed)).correctDrift now

/-- SYNC (44 R236). -/
def State.clockSync (t : Word) (now : Rat) (s : State) : State :=
  if s.synced then s.laterSync t now else s.firstSync t now

/-- REALTIME's signed tick distance from the last sync, in its four cases (44 R241 to R244). -/
def realtimeDelta (last ts : Word) : Int :=
  if last.toNat ≤ ts.toNat then
    let gap := ts.toNat - last.toNat
    if gap > halfSpace then (gap : Int) - tickSpace else gap
  else
    let gap := last.toNat - ts.toNat
    if gap > halfSpace then ts.toNat + (rollAdd - last.toNat : Nat) else -(gap : Int)

/-- `lastRealTime[sid]`. -/
def State.lastRealTimeOf (sid : StreamId) (s : State) : Rat := s.lastRealTime[sid.toNat]'(by omega)

/-- `lastDevTs[sid]`. -/
def State.lastDevTsOf (sid : StreamId) (s : State) : Word := s.lastDevTs[sid.toNat]'(by omega)

/-- Write a stream's entry of the per-stream table (44 R245). -/
def State.recordTime (sid : StreamId) (seconds : Rat) (ts : Word) (s : State) : State :=
  { s with
    lastRealTime := s.lastRealTime.set sid.toNat seconds (by omega)
    lastDevTs := s.lastDevTs.set sid.toNat ts (by omega) }

/-- REALTIME (44 R246): the regression check, the table update, the output. -/
def State.realtime (ts : Word) (sid : StreamId) (s : State) : State :=
  if s.synced then
    let ticks : Int := s.tickAcc.toNat + realtimeDelta s.lastSyncTs ts
    let seconds := secondsOf s.par ticks
    (((s.emitIf (regressed (s.lastRealTimeOf sid) seconds)
      (.timeRegression sid (s.lastRealTimeOf sid) seconds (s.lastDevTsOf sid) ts)).recordTime sid seconds ts).output
        (.rt sid ticks seconds))
  else s.emit (.notSynced ts sid)

/-! ### Packet-header decoder (43_packet_decode.md) -/

/-- SYNCPKT (43 R199): word 0 is the tick value; with no word the clock is left alone. -/
def State.syncPacket (words : List Word) (now : Rat) (s : State) : State :=
  match words with
  | [] => s.emit .syncNoWord
  | t :: _ => s.clockSync t now

/-- Deliver a control packet (43 R183, R185): `lastSeq`, then the packet. -/
def State.deliver (id : MsgId) (seq : Byte) (words : List Word) (s : State) : State :=
  ({ s with lastSeq := seq }).output (.ctrl id seq words)

/-- A decoded control packet of an assigned id (43 R183 from `lastSeq <- seq` on): deliver it; `sync` also drives the
clock (R199). -/
def State.control (id : MsgId) (seq : Byte) (words : List Word) (now : Rat) (s : State) : State :=
  if id = msgidSync then (s.deliver id seq words).syncPacket words now else s.deliver id seq words

/-- An unassigned control id (43 R184): no packet, `lastSeq` unchanged. -/
def State.badControl (id seq : Byte) (s : State) : State := s.emit (.badControlId id seq)

/-- CTRL (43 R183): length test, id test, then the packet. -/
def State.ctrl (p : Payload) (now : Rat) (s : State) : State :=
  match p.rest with
  | [] => s.emit (.shortControl p.hdr)
  | seq :: body =>
    if h : p.hdr.toNat < 19 then s.control ⟨p.hdr.toNat, h⟩ seq (wordsOf body) now
    else s.badControl p.hdr seq

/-- A stream packet of the given header fields (43 R207). -/
def State.streamPacket (sid : StreamId) (nibble : BitVec 4) (rest : List Byte) (s : State) : State :=
  s.output (.strm sid (samplesOf (valueStream nibble rest)))

/-- STRM (43 R207). -/
def State.strm (p : Payload) (s : State) : State := s.streamPacket (headerSid p.hdr) (headerNibble p.hdr) p.rest

/-- CLASSIFY (43 R180): bit 7 of the header byte. -/
def State.classify (p : Payload) (now : Rat) (s : State) : State :=
  if p.hdr.msb then s.strm p else s.ctrl p now

/-! ### Frame scanner (42_scanner.md) -/

/-- R151: the opening delimiter. -/
def State.openFrame (s : State) : State := { s with st := .readLead }

/-- R153: the lead byte is consumed, whatever it is. -/
def State.startCollect (s : State) : State :=
  { s with st := .collecting, esc := false, cks := cksumInit, pay := [] }

/-- R154: the byte after an unescaped `ESC` is payload, whatever it is. -/
def State.collectEscaped (b : Byte) (s : State) : State :=
  { s with pay := s.pay ++ [b], cks := ckstep s.cks b, esc := false }

/-- R155: an unescaped `ESC` is folded into the checksum and removed from the payload. -/
def State.collectEsc (b : Byte) (s : State) : State := { s with esc := true, cks := ckstep s.cks b }

/-- R156: an unescaped `EOP` ends the payload. -/
def State.closePayload (s : State) : State := { s with st := .readTrail }

/-- R157: an ordinary payload byte. -/
def State.collectData (b : Byte) (s : State) : State :=
  { s with pay := s.pay ++ [b], cks := ckstep s.cks b }

/-- R162: back to `SeekStart`, accepted or not. -/
def State.toSeek (s : State) : State := { s with st := .seekStart, esc := false, cks := cksumInit, pay := [] }

/-- The three arms of frame completion (42 R158 to R161): report, or output the frame and decode its payload. -/
def State.judge (b : Byte) (now : Rat) (s : State) : State :=
  match verdict s.verifyEn s.cks s.pay b with
  | .empty => s.emit .emptyPayload
  | .rejected => s.emit (.badChecksum b s.cks s.pay.length)
  | .accepted p => (s.output (.frame p.bytes)).classify p now

/-- Frame completion (42 R158). -/
def State.completeFrame (b : Byte) (now : Rat) (s : State) : State := (s.judge b now).toSeek

/-- The ghost register, after every case (42 R150). -/
def State.keepRaw (b : Byte) (s : State) : State :=
  { s with raw := if s.st = .seekStart then [] else s.raw ++ [b] }

/-- One received byte of class `c`, by scanner state (42 R151 to R158, the transition table R170). -/
def State.rxClass (c : ByteClass) (b : Byte) (now : Rat) (s : State) : State :=
  (match s.st with
    | .seekStart =>
      match c with
      | .eop => s.openFrame
      | .esc | .data => s
    | .readLead => s.startCollect
    | .collecting =>
      if s.esc then s.collectEscaped b
      else
        match c with
        | .eop => s.closePayload
        | .esc => s.collectEsc b
        | .data => s.collectData b
    | .readTrail => s.completeFrame b now).keepRaw b

/-- RXBYTE (42 R150): the byte is classified (30 R95) and runs its row of the transition table. -/
def State.rxByte (b : Byte) (now : Rat) (s : State) : State := s.rxClass (byteClass s.par b) b now

/-- RXBYTE for each byte of a buffer, in order (42 R169). -/
def State.rxAll (buffer : List RxByte) (s : State) : State := buffer.foldl (fun s x => s.rxByte x.b x.now) s

/-- The scanner's registers as SCAN starts from them (42 R169). -/
def State.scannerReset (s : State) : State :=
  { s with st := .seekStart, esc := false, cks := cksumInit, pay := [], raw := [] }

/-- The `Frame` items among outputs (`frame_out`, 10_state.md R40). -/
def framesOf (outs : List Output) : List (List Byte) :=
  outs.filterMap fun o =>
    match o with
    | .frame p => some p
    | .ctrl .. | .strm .. | .rt .. | .tx .. | .ev .. => none

/-! ### Configuration and reset -/

/-- SETVERIFY (42 R163). -/
def State.setVerify (v : Bool) (s : State) : State := { s with verifyEn := v }

/-- RESET (70 R290): every register takes its reset value; parameters, pending input events and outputs already
produced stay. -/
def State.resetRegs (s : State) : State :=
  { State.reset with par := s.par, inbox := s.inbox, outs := s.outs, result := s.result }

end Sys2Proof.Machine
end

