-- ==== Sys2Proof/Machine/Clock.lean ====
section
/-! DEFINITION. The meanings of SYNC and REALTIME (44_clock.md). -/

namespace Sys2Proof.Machine

/-- SYNC (44 R236). -/
def execClockSync (t : Word) (now : Rat) (s : State) : Host.Outcome State Fault Refusal :=
  complete .none (s.clockSync t now)

/-- REALTIME (44 R246). -/
def execRealtime (ts : Word) (sid : StreamId) (s : State) : Host.Outcome State Fault Refusal :=
  complete .none (s.realtime ts sid)

end Sys2Proof.Machine
end

