-- ==== Sys2Proof/Machine/Codec.lean ====
section
/-! DEFINITION. The meanings of CKSUM, ESCAPE, UNESCAPE, BUILDFRAME, TXSEQ and SEND (41_codec.md). -/

namespace Sys2Proof.Machine

/-- CKSUM (41 R130): a pure function, its value on `cksum_out`. -/
def execCksum (bytes : List Byte) (s : State) : Host.Outcome State Fault Refusal := complete (.cksum (cksum bytes)) s

/-- ESCAPE (41 R133). -/
def execEscape (bytes : List Byte) (s : State) : Host.Outcome State Fault Refusal :=
  complete (.bytes (escape s.par bytes)) s

/-- UNESCAPE (41 R135). -/
def execUnescape (bytes : List Byte) (s : State) : Host.Outcome State Fault Refusal :=
  complete (.bytes (unescape s.par bytes)) s

/-- BUILDFRAME (41 R137). -/
def execBuildframe (id seq : Byte) (words : List Word) (s : State) : Host.Outcome State Fault Refusal :=
  complete (.bytes (buildFrame s.par id seq words)) s

/-- TXSEQ (41 R139): the counter step on the register, returning its new value. -/
def execTxseq (s : State) : Host.Outcome State Fault Refusal := complete (.seq (nextSeq s.txSeq)) s.advanceSeq

/-- SEND (41 R138, R140): an unresolved name or id is reported and leaves `txSeq` alone. -/
def execSend (m : MsgRef) (value : Option Word) (s : State) : Host.Outcome State Fault Refusal :=
  match resolve m with
  | none => complete (.sent false) (s.emit (.unknownMessageName m))
  | some id => complete (.sent true) (s.sendFrame id value)

end Sys2Proof.Machine
end

