-- ==== Sys2Proof/Machine/Packet.lean ====
section
/-! DEFINITION. The meanings of the HDR rows (the packets an accepted payload holds) and of CLASSIFY, CTRL and STRM
(43_packet_decode.md). The block gives the 19 control messages no meaning beyond delivering them; `sync` also drives
the clock converter. -/

namespace Sys2Proof.Machine

/-- `talk` (43 R186): delivered on `ctrl_out`; no other effect. -/
def execTalk (seq : Byte) (words : List Word) (s : State) : Host.Outcome State Fault Refusal :=
  complete .none (s.deliver 0 seq words)

/-- `over` (43 R187): delivered on `ctrl_out`; no other effect. -/
def execOver (seq : Byte) (words : List Word) (s : State) : Host.Outcome State Fault Refusal :=
  complete .none (s.deliver 1 seq words)

/-- `bad` (43 R188): delivered on `ctrl_out`; no other effect. -/
def execBad (seq : Byte) (words : List Word) (s : State) : Host.Outcome State Fault Refusal :=
  complete .none (s.deliver 2 seq words)

/-- `version` (43 R189): delivered on `ctrl_out`; no other effect. -/
def execVersion (seq : Byte) (words : List Word) (s : State) : Host.Outcome State Fault Refusal :=
  complete .none (s.deliver 3 seq words)

/-- `start` (43 R190): delivered on `ctrl_out`; no other effect. -/
def execStart (seq : Byte) (words : List Word) (s : State) : Host.Outcome State Fault Refusal :=
  complete .none (s.deliver 4 seq words)

/-- `stop` (43 R191): delivered on `ctrl_out`; no other effect. -/
def execStop (seq : Byte) (words : List Word) (s : State) : Host.Outcome State Fault Refusal :=
  complete .none (s.deliver 5 seq words)

/-- `set` (43 R192): delivered on `ctrl_out`; no other effect. -/
def execSet (seq : Byte) (words : List Word) (s : State) : Host.Outcome State Fault Refusal :=
  complete .none (s.deliver 6 seq words)

/-- `dir` (43 R193): delivered on `ctrl_out`; no other effect. -/
def execDir (seq : Byte) (words : List Word) (s : State) : Host.Outcome State Fault Refusal :=
  complete .none (s.deliver 7 seq words)

/-- `query` (43 R194): delivered on `ctrl_out`; no other effect. -/
def execQuery (seq : Byte) (words : List Word) (s : State) : Host.Outcome State Fault Refusal :=
  complete .none (s.deliver 8 seq words)

/-- `info` (43 R195): delivered on `ctrl_out`; no other effect. -/
def execInfo (seq : Byte) (words : List Word) (s : State) : Host.Outcome State Fault Refusal :=
  complete .none (s.deliver 9 seq words)

/-- `dig` (43 R196): delivered on `ctrl_out`; no other effect. -/
def execDig (seq : Byte) (words : List Word) (s : State) : Host.Outcome State Fault Refusal :=
  complete .none (s.deliver 10 seq words)

/-- `wav` (43 R197): delivered on `ctrl_out`; no other effect. -/
def execWav (seq : Byte) (words : List Word) (s : State) : Host.Outcome State Fault Refusal :=
  complete .none (s.deliver 11 seq words)

/-- `point` (43 R198): delivered on `ctrl_out`; no other effect. -/
def execPoint (seq : Byte) (words : List Word) (s : State) : Host.Outcome State Fault Refusal :=
  complete .none (s.deliver 12 seq words)

/-- `sync` (43 R199): delivered on `ctrl_out`, then word 0 drives the clock converter. -/
def execSync (seq : Byte) (words : List Word) (now : Rat) (s : State) : Host.Outcome State Fault Refusal :=
  complete .none (s.control 13 seq words now)

/-- `avg` (43 R200): delivered on `ctrl_out`; no other effect. -/
def execAvg (seq : Byte) (words : List Word) (s : State) : Host.Outcome State Fault Refusal :=
  complete .none (s.deliver 14 seq words)

/-- `timer` (43 R201): delivered on `ctrl_out`; no other effect. -/
def execTimer (seq : Byte) (words : List Word) (s : State) : Host.Outcome State Fault Refusal :=
  complete .none (s.deliver 15 seq words)

/-- `event` (43 R202): delivered on `ctrl_out`; no other effect. -/
def execEvent (seq : Byte) (words : List Word) (s : State) : Host.Outcome State Fault Refusal :=
  complete .none (s.deliver 16 seq words)

/-- `resetevents` (43 R203): delivered on `ctrl_out`; no other effect. -/
def execResetevents (seq : Byte) (words : List Word) (s : State) : Host.Outcome State Fault Refusal :=
  complete .none (s.deliver 17 seq words)

/-- `trigger` (43 R204): delivered on `ctrl_out`; no other effect. -/
def execTrigger (seq : Byte) (words : List Word) (s : State) : Host.Outcome State Fault Refusal :=
  complete .none (s.deliver 18 seq words)

/-- `ctrl_unassigned` (43 R184): `EV_BAD_CONTROL_ID`, no packet. A term whose id is assigned is no instruction. -/
def execCtrlUnassigned (id : BitVec 7) (seq : Byte) (s : State) : Host.Outcome State Fault Refusal :=
  if 19 ≤ id.toNat then complete .none (s.badControl (id.setWidth 8) seq) else .refused .assignedControlId

/-- `stream` (43 R207): one stream packet. -/
def execStream (sid : StreamId) (nibble : BitVec 4) (rest : List Byte) (s : State) :
    Host.Outcome State Fault Refusal :=
  complete .none (s.streamPacket sid nibble rest)

/-- CLASSIFY (43 R180). -/
def execClassify (p : Payload) (now : Rat) (s : State) : Host.Outcome State Fault Refusal :=
  complete .none (s.classify p now)

/-- CTRL (43 R183). -/
def execCtrl (p : Payload) (now : Rat) (s : State) : Host.Outcome State Fault Refusal :=
  complete .none (s.ctrl p now)

/-- STRM (43 R207). -/
def execStrm (p : Payload) (s : State) : Host.Outcome State Fault Refusal := complete .none (s.strm p)

end Sys2Proof.Machine
end

