-- ==== Sys2Proof/Machine/Scanner.lean ====
section
/-! DEFINITION. The meanings of the TOKEN rows, of RXBYTE, SETVERIFY, RESET and SCAN (42_scanner.md, 70 R290). -/

namespace Sys2Proof.Machine

/-- `byte_EOP` (30 R95; 42 R151, R153, R154, R156, R158 by scanner state). -/
def execByteEOP (b : Byte) (now : Rat) (s : State) : Host.Outcome State Fault Refusal :=
  if byteClass s.par b = .eop then complete .none (s.rxClass .eop b now) else .refused .tokenClassMismatch

/-- `byte_ESC` (30 R95; 42 R152, R153, R154, R155, R158 by scanner state). -/
def execByteESC (b : Byte) (now : Rat) (s : State) : Host.Outcome State Fault Refusal :=
  if byteClass s.par b = .esc then complete .none (s.rxClass .esc b now) else .refused .tokenClassMismatch

/-- `byte_DATA` (30 R95; 42 R152, R153, R154, R157, R158 by scanner state). -/
def execByteDATA (b : Byte) (now : Rat) (s : State) : Host.Outcome State Fault Refusal :=
  if byteClass s.par b = .data then complete .none (s.rxClass .data b now) else .refused .tokenClassMismatch

/-- RXBYTE (42 R150). -/
def execRxbyte (b : Byte) (now : Rat) (s : State) : Host.Outcome State Fault Refusal :=
  complete .none (s.rxByte b now)

/-- SETVERIFY (42 R163). -/
def execSetverify (v : Bool) (s : State) : Host.Outcome State Fault Refusal := complete .none (s.setVerify v)

/-- RESET (70 R290). -/
def execReset (s : State) : Host.Outcome State Fault Refusal := complete .none s.resetRegs

/-- SCAN (42 R169): the scanner from its reset registers over the buffer; returns the frames output and the raw bytes
of the frame in progress. -/
def execScan (buffer : List RxByte) (s : State) : Host.Outcome State Fault Refusal :=
  let t := s.scannerReset.rxAll buffer
  complete (.scanned (framesOf (t.outs.drop s.outs.length)) t.raw) t

end Sys2Proof.Machine
end

