-- ==== Sys2Proof/Machine/Dispatch.lean ====
section
/-! DEFINITION. The meaning of every instruction: one arm per constructor of Instr, each one call of its meaning. -/

namespace Sys2Proof.Machine

def exec (i : Instr) (s : State) : Host.Outcome State Fault Refusal :=
  match i with
  | .talk seq words => Sys2Proof.Machine.execTalk seq words s
  | .overMsg seq words => Sys2Proof.Machine.execOver seq words s
  | .bad seq words => Sys2Proof.Machine.execBad seq words s
  | .version seq words => Sys2Proof.Machine.execVersion seq words s
  | .start seq words => Sys2Proof.Machine.execStart seq words s
  | .stop seq words => Sys2Proof.Machine.execStop seq words s
  | .set seq words => Sys2Proof.Machine.execSet seq words s
  | .dir seq words => Sys2Proof.Machine.execDir seq words s
  | .query seq words => Sys2Proof.Machine.execQuery seq words s
  | .info seq words => Sys2Proof.Machine.execInfo seq words s
  | .dig seq words => Sys2Proof.Machine.execDig seq words s
  | .wav seq words => Sys2Proof.Machine.execWav seq words s
  | .point seq words => Sys2Proof.Machine.execPoint seq words s
  | .sync seq words now => Sys2Proof.Machine.execSync seq words now s
  | .avg seq words => Sys2Proof.Machine.execAvg seq words s
  | .timer seq words => Sys2Proof.Machine.execTimer seq words s
  | .event seq words => Sys2Proof.Machine.execEvent seq words s
  | .resetevents seq words => Sys2Proof.Machine.execResetevents seq words s
  | .trigger seq words => Sys2Proof.Machine.execTrigger seq words s
  | .ctrlUnassigned id seq => Sys2Proof.Machine.execCtrlUnassigned id seq s
  | .stream sid nibble rest => Sys2Proof.Machine.execStream sid nibble rest s
  | .byteEOP b now => Sys2Proof.Machine.execByteEOP b now s
  | .byteESC b now => Sys2Proof.Machine.execByteESC b now s
  | .byteDATA b now => Sys2Proof.Machine.execByteDATA b now s
  | .reset => Sys2Proof.Machine.execReset s
  | .rxbyte b now => Sys2Proof.Machine.execRxbyte b now s
  | .setverify v => Sys2Proof.Machine.execSetverify v s
  | .realtime ts sid => Sys2Proof.Machine.execRealtime ts sid s
  | .send m value => Sys2Proof.Machine.execSend m value s
  | .cksum bytes => Sys2Proof.Machine.execCksum bytes s
  | .escape bytes => Sys2Proof.Machine.execEscape bytes s
  | .unescape bytes => Sys2Proof.Machine.execUnescape bytes s
  | .buildframe id seq words => Sys2Proof.Machine.execBuildframe id seq words s
  | .txseq => Sys2Proof.Machine.execTxseq s
  | .scan buffer => Sys2Proof.Machine.execScan buffer s
  | .classify p now => Sys2Proof.Machine.execClassify p now s
  | .ctrl p now => Sys2Proof.Machine.execCtrl p now s
  | .strm p => Sys2Proof.Machine.execStrm p s
  | .clockSync t now => Sys2Proof.Machine.execClockSync t now s

end Sys2Proof.Machine
end

