-- ==== Sys2Proof/Decode.lean ====
section
/-! DEFINITION. The decoder of payloads (30_encoding.md R97 to R102, R117) and of wire bytes (R95), and after them
the encoder, written from the same tables. EVENT and INTERNAL rows have no encoding (R117). -/

namespace Sys2Proof

open Machine

/-- Why a payload holds no packet. -/
inductive DecodeError where
  /-- A payload of length 0 (30 R109 (a)). -/
  | emptyPayload
  /-- A control payload of one byte, with no sequence byte (30 R109 (c)). -/
  | shortControl (hdr : Byte)
deriving DecidableEq, Repr

/-- The control message of an assigned id, the HDR rows `0x00` to `0x12` (30 R105). -/
def controlInstr (id : MsgId) (seq : Byte) (words : List Word) (now : Rat) : Instr :=
  match id with
  | ⟨0, _⟩ => .talk seq words
  | ⟨1, _⟩ => .overMsg seq words
  | ⟨2, _⟩ => .bad seq words
  | ⟨3, _⟩ => .version seq words
  | ⟨4, _⟩ => .start seq words
  | ⟨5, _⟩ => .stop seq words
  | ⟨6, _⟩ => .set seq words
  | ⟨7, _⟩ => .dir seq words
  | ⟨8, _⟩ => .query seq words
  | ⟨9, _⟩ => .info seq words
  | ⟨10, _⟩ => .dig seq words
  | ⟨11, _⟩ => .wav seq words
  | ⟨12, _⟩ => .point seq words
  | ⟨13, _⟩ => .sync seq words now
  | ⟨14, _⟩ => .avg seq words
  | ⟨15, _⟩ => .timer seq words
  | ⟨16, _⟩ => .event seq words
  | ⟨17, _⟩ => .resetevents seq words
  | ⟨18, _⟩ => .trigger seq words
  | ⟨n + 19, h⟩ => absurd h (by omega)

/-- The packet of a payload, decoded at host time `now` (which only `sync` uses): bit 7 of the header selects the class
(R97); a stream payload of any length decodes (R108); a control payload needs a sequence byte (R109); ids 19..127 are
unassigned (R107). -/
def decode (now : Rat) : List Byte → Except DecodeError Instr
  | [] => .error .emptyPayload
  | h :: rest =>
    if h.msb then .ok (.stream (headerSid h) (headerNibble h) rest)
    else
      match rest with
      | [] => .error (.shortControl h)
      | seq :: body =>
        if id : h.toNat < 19 then .ok (controlInstr ⟨h.toNat, id⟩ seq (wordsOf body) now)
        else .ok (.ctrlUnassigned (h.extractLsb' 0 7) seq)

/-- The TOKEN row of a received byte (30 R95). -/
def decodeToken (P : Params) (b : Byte) (now : Rat) : Instr :=
  if b = P.eop then .byteEOP b now else if b = P.esc then .byteESC b now else .byteDATA b now

/-- The payload of a control packet (30 R98). -/
def encodeControl (id : MsgId) (seq : Byte) (words : List Word) : List Byte :=
  BitVec.ofNat 8 id.val :: seq :: words.flatMap bytesBe32

/-- The encoding of an instruction: a payload for the HDR rows, one wire byte for the TOKEN rows, none for the EVENT
and INTERNAL rows (30 R98, R99, R95, R117). -/
def encode : Instr → Option (List Byte)
  | .talk seq words => some (encodeControl 0 seq words)
  | .overMsg seq words => some (encodeControl 1 seq words)
  | .bad seq words => some (encodeControl 2 seq words)
  | .version seq words => some (encodeControl 3 seq words)
  | .start seq words => some (encodeControl 4 seq words)
  | .stop seq words => some (encodeControl 5 seq words)
  | .set seq words => some (encodeControl 6 seq words)
  | .dir seq words => some (encodeControl 7 seq words)
  | .query seq words => some (encodeControl 8 seq words)
  | .info seq words => some (encodeControl 9 seq words)
  | .dig seq words => some (encodeControl 10 seq words)
  | .wav seq words => some (encodeControl 11 seq words)
  | .point seq words => some (encodeControl 12 seq words)
  | .sync seq words _ => some (encodeControl 13 seq words)
  | .avg seq words => some (encodeControl 14 seq words)
  | .timer seq words => some (encodeControl 15 seq words)
  | .event seq words => some (encodeControl 16 seq words)
  | .resetevents seq words => some (encodeControl 17 seq words)
  | .trigger seq words => some (encodeControl 18 seq words)
  | .ctrlUnassigned id seq => some [(0#1) ++ id, seq]
  | .stream sid nibble rest => some (streamHeader sid nibble :: rest)
  | .byteEOP b _ => some [b]
  | .byteESC b _ => some [b]
  | .byteDATA b _ => some [b]
  | .reset | .rxbyte .. | .setverify .. | .realtime .. | .send .. | .cksum .. | .escape .. | .unescape ..
  | .buildframe .. | .txseq | .scan .. | .classify .. | .ctrl .. | .strm .. | .clockSync .. => none

/-- The payload of a table word: its `nbits` bits as bytes, bit 0 the least significant bit of the first, then zero
bytes up to a sequence byte and one word (log entry 8). -/
def tableWordBytes (nbits w : Nat) : List Byte :=
  let n := (nbits + 7) / 8
  (List.range (max n 6)).map fun k => if k < n then BitVec.ofNat 8 (w / 2 ^ (8 * k)) else 0

/-- What the payload decoder reads from a table word (the HDR rows of spec/opcode_table.json), at host time 0. -/
def decodeTableWord (nbits w : Nat) : Option Instr :=
  match decode 0 (tableWordBytes nbits w) with
  | .ok i => some i
  | .error _ => none

/-- The header-byte map of spec/opcode_table.json (30 R100, R117): mnemonic, match and mask of the HDR rows, in file
order. -/
def headerMap : List (String × Byte × Byte) :=
  ((List.range 19).map fun k => (nameTable.getD k "", BitVec.ofNat 8 k, 0xFF)) ++
    [("ctrl_unassigned", 0x00, 0x80), ("stream", 0x80, 0x80)]

/-- The first row of the header-byte map that matches: `(byte AND mask) == match` (30 R117). -/
def headerRow (h : Byte) : Option String :=
  (headerMap.find? fun row => h &&& row.2.2 == row.2.1).map (·.1)

end Sys2Proof
end

