-- ==== Sys2Proof/Machine/Fetch.lean ====
section
/-! DEFINITION. Where a step's instruction comes from: the next input event (10_state.md R38), and how a header-map
word is placed so that the next step runs it. -/

namespace Sys2Proof.Machine

/-- The next input event, taken from `inbox`, and the state without it; none when no event is presented. -/
def State.fetch (s : State) : Option (Instr × State) :=
  match s.inbox with
  | [] => none
  | e :: rest => some (e.toInstr, { s with inbox := rest })

/-- A table word in place (log entry 8): the scanner has received the frame of its payload up to the closing `EOP`
(42 R167, R168), and the next input event is the trailing byte 0, "unchecked" (R160), at host time 0. -/
def State.placeTableWord (s : State) (nbits w : Nat) : State :=
  let payload := tableWordBytes nbits w
  let escaped := escape s.par payload
  { s with
    st := .readTrail
    esc := false
    cks := cksum escaped
    pay := payload
    raw := [s.par.eop, txLeadByte] ++ escaped ++ [s.par.eop]
    inbox := .rxbyte 0 0 :: s.inbox }

end Sys2Proof.Machine
end

