-- ==== Sys2Proof/WellFormed.lean ====
section
/-! DEFINITION. Which terms of `Instr` are instructions: the operand conditions the spec states. -/

namespace Sys2Proof

/-- The operand conditions of each row: a TOKEN row's byte is of the row's class (30_encoding.md R95), an unassigned id
is 19..127 (R107, R184), CTRL's payload has header bit 7 clear (43 R181) and STRM's has it set (43 R205). Every other
operand type holds exactly the values the spec admits. -/
def Instr.wellFormed (P : Params) : Instr → Bool
  | .byteEOP b _ => b == P.eop
  | .byteESC b _ => b == P.esc && b != P.eop
  | .byteDATA b _ => b != P.eop && b != P.esc
  | .ctrlUnassigned id _ => 19 ≤ id.toNat
  | .ctrl p _ => !p.hdr.msb
  | .strm p => p.hdr.msb
  | .talk .. | .overMsg .. | .bad .. | .version .. | .start .. | .stop .. | .set .. | .dir .. | .query .. | .info ..
  | .dig .. | .wav .. | .point .. | .sync .. | .avg .. | .timer .. | .event .. | .resetevents .. | .trigger ..
  | .stream .. | .reset | .rxbyte .. | .setverify .. | .realtime .. | .send .. | .cksum .. | .escape ..
  | .unescape .. | .buildframe .. | .txseq | .scan .. | .classify .. | .clockSync .. => true

end Sys2Proof
end

