-- ==== Sys2Proof/Safety.lean ====
section
/-! DEFINITION. The terms the statements use: what a safe step is, which registers two states share, the scanner's
invariants, and the index forms in which the spec writes words and samples. -/

namespace Sys2Proof.Machine

/-- A safe state: the block's next step has a next state (42_scanner.md R164, 60_exceptions.md R260). -/
def State.Safe (s : State) : Prop := ∃ t, step s = .next t

/-- `s` with items appended to the outputs and a returned value, everything else unchanged. -/
def State.after (s : State) (items : List Output) (r : Result) : State :=
  { s with outs := s.outs ++ items, result := r }

/-- The items output between `s` and `t`, when `t` only appends. -/
def newOutputs (s t : State) : List Output := t.outs.drop s.outs.length

/-- The scanner's registers `st`, `esc`, `cks`, `pay`, `raw` agree. -/
abbrev State.ScannerSame (s t : State) : Prop :=
  t.st = s.st ∧ t.esc = s.esc ∧ t.cks = s.cks ∧ t.pay = s.pay ∧ t.raw = s.raw

/-- The clock converter's scalar registers agree. -/
abbrev State.SyncRegsSame (s t : State) : Prop :=
  t.synced = s.synced ∧ t.tickAcc = s.tickAcc ∧ t.lastSyncTs = s.lastSyncTs ∧ t.firstSyncWall = s.firstSyncWall

/-- The clock converter's per-stream tables agree. -/
abbrev State.TableSame (s t : State) : Prop := t.lastRealTime = s.lastRealTime ∧ t.lastDevTs = s.lastDevTs

/-- `w` holds no unescaped `EOP` (30_encoding.md R93): every `EOP` in it follows a pending `ESC`. -/
def NoOpenEop (P : Params) (w : List Byte) : Prop := ∀ u v, w = u ++ P.eop :: v → (unescapeRun P u).2 = true

/-- What the scanner's registers are of the wire bytes `w` after the lead byte (42 R167, R168, and the transition table
R170), with the ghost register `raw` (10_state.md R43). -/
def State.WireInv (s : State) : Prop :=
  match s.st with
  | .seekStart => s.raw = [] ∧ s.esc = false ∧ s.cks = 0 ∧ s.pay = []
  | .readLead => s.raw = [s.par.eop] ∧ s.esc = false ∧ s.cks = 0 ∧ s.pay = []
  | .collecting => ∃ lead w, s.raw = s.par.eop :: lead :: w ∧ s.cks = cksum w ∧
      unescapeRun s.par w = (s.pay, s.esc) ∧ NoOpenEop s.par w
  | .readTrail => ∃ lead w, s.raw = s.par.eop :: lead :: (w ++ [s.par.eop]) ∧ s.cks = cksum w ∧
      s.pay = unescape s.par w ∧ s.esc = false ∧ NoOpenEop s.par w

/-- The restart law of 42 R169: the scanner run from its reset registers over `raw` (whatever the clock readings)
reproduces the scanner's registers and outputs nothing. -/
def State.ReplaysRaw (s : State) : Prop :=
  ∀ buf : List RxByte, buf.map (·.b) = s.raw →
    s.ScannerSame (s.scannerReset.rxAll buf) ∧ (s.scannerReset.rxAll buf).outs = s.outs

/-- The words of a control payload's body in the index form of 30 R98 and R101. -/
def wordsByIndex (body : List Byte) : List Word :=
  (List.range (body.length / 4)).map fun k =>
    BitVec.ofNat 32 ((body.getD (4 * k) 0).toNat * 2 ^ 24 + (body.getD (4 * k + 1) 0).toNat * 2 ^ 16 +
      (body.getD (4 * k + 2) 0).toNat * 2 ^ 8 + (body.getD (4 * k + 3) 0).toNat)

/-- The sample of `len` bits of `V` at bit position `pos`. -/
def sampleAt (V : List Bool) (pos len : Nat) : Word := BitVec.ofNat 32 (uint ((V.drop pos).take len))

/-- The samples of a payload of `n` bytes in the closed form of 43 R210. -/
def samplesByShape (n : Nat) (V : List Bool) : List Word :=
  if n < 5 then []
  else if n < 9 then [sampleAt V 0 32]
  else
    let k := (8 * n - 68) / 12
    sampleAt V 0 32 :: ((List.range k).map fun j => sampleAt V (32 + 12 * j) 12) ++ [sampleAt V (32 + 12 * k) 32]

/-- The payload is that of a `sync` packet with a tick value (43 R199). -/
def IsSyncWithWord (p : List Byte) : Prop := ∃ seq b0 b1 b2 b3 more, p = 13 :: seq :: b0 :: b1 :: b2 :: b3 :: more

/-- An item that ends a frame: the frame, or the report that it is discarded. -/
def isCompletion : Output → Bool
  | .frame _ => true
  | .ev .emptyPayload => true
  | .ev (.badChecksum ..) => true
  | _ => false

/-- The TOKEN rows. -/
def isToken : Instr → Bool
  | .byteEOP .. | .byteESC .. | .byteDATA .. => true
  | _ => false

/-- The HDR or TOKEN instruction with its clock reading replaced; every other instruction as it is. -/
def atTime (now : Rat) : Instr → Instr
  | .sync seq words _ => .sync seq words now
  | .byteEOP b _ => .byteEOP b now
  | .byteESC b _ => .byteESC b now
  | .byteDATA b _ => .byteDATA b now
  | i => i

/-- Received bytes as input events, the `k`-th at host time `clock k`: any function of the position (10_state.md R39). -/
def rxEvents (clock : Nat → Rat) (wire : List Byte) : List Event := wire.mapIdx fun k b => .rxbyte b (clock k)

end Sys2Proof.Machine
end

