-- ==== Sys2Proof/Certificates/Slice0/Obligations.lean ====
section
/-! DEFINITION. The statements for the provers, one per obligation. OBLIGATIONS.json gives each its title, the rules of
spec/ it formalises and, where it is a stated one, the sentence. -/

open Sys2Proof Sys2Proof.Machine

/-- Payloads written out from the spec's formats decode to the packets they stand for. Rests on 30_encoding.md section 2
(R97 to R102), 43_packet_decode.md R183, R184, R182 (their examples). -/
def Obligations.DecodedWordsAreTheSpecs : Prop :=
  decode 0 [0x04, 0x15, 0x00, 0x00, 0x00, 0x03] = .ok (.start 21 [3]) ∧
  decode 0 [0x06, 0x7E, 0x7D, 0x00, 0x00, 0x7E] = .ok (.set 126 [0x7D00007E]) ∧
  decode 100 [0x0D, 0x02, 0x00, 0x00, 0x10, 0x00] = .ok (.sync 2 [0x1000] 100) ∧
  decode 0 [0x13, 0x01] = .ok (.ctrlUnassigned 19 1) ∧
  decode 0 [0xA1, 0x23, 0x45] = .ok (.stream 2 1 [0x23, 0x45]) ∧
  decode 0 [0x03] = .error (.shortControl 3) ∧ decode 0 [] = .error .emptyPayload

/-- Every header byte selects one row of the header-byte map, and the decoder follows it. Formalises R100. -/
def Obligations.EveryHeaderByteIsClassified : Prop :=
  (∀ (now : Rat) (h seq : Byte) (body : List Byte), ∃ i, decode now (h :: seq :: body) = .ok i ∧
    headerRow h = some i.mnemonic ∧
    (h.toNat < 0x13 → nameTable[h.toNat]? = some i.mnemonic) ∧
    (0x13 ≤ h.toNat → h.toNat ≤ 0x7F → ∃ id : BitVec 7, id.toNat = h.toNat ∧ i = .ctrlUnassigned id seq)) ∧
  (∀ (now : Rat) (sid : StreamId) (v : BitVec 4) (rest : List Byte),
    decode now (BitVec.ofNat 8 (0x80 + 0x10 * sid.toNat + v.toNat) :: rest) = .ok (.stream sid v rest)) ∧
  (∀ h : Byte, 0x80 ≤ h.toNat →
    ∃ (sid : StreamId) (v : BitVec 4), h = BitVec.ofNat 8 (0x80 + 0x10 * sid.toNat + v.toNat))

/-- Decoding the encoding of a well-formed instruction gives it back, for every HDR and TOKEN row. Rests on
30_encoding.md R95, R97 to R102, R117. -/
def Obligations.DecodeInvertsEncode : Prop :=
  ∀ (P : Params) (i : Instr) (bs : List Byte) (now : Rat),
    i.wellFormed P = true → encode i = some bs → atTime now i = i →
      (isToken i = false → decode now bs = .ok i) ∧
      (isToken i = true → ∃ b, bs = [b] ∧ decodeToken P b now = i)

/-- What the decoder reads encodes to the payload, less only the bytes the formats ignore. Rests on 30_encoding.md R98,
R99, 20_memory.md R67, 43_packet_decode.md R184. -/
def Obligations.EncodeInvertsDecodeUpToDroppedBytes : Prop :=
  ∀ (now : Rat) (p : List Byte) (i : Instr), decode now p = .ok i →
    ∃ bs, encode i = some bs ∧ bs <+: p ∧
      (∀ h rest, p = h :: rest →
        (0x80 ≤ h.toNat → bs = p) ∧
        (h.toNat < 0x13 → p.length ≤ bs.length + 3) ∧
        (0x13 ≤ h.toNat → h.toNat < 0x80 → bs.length = 2))

/-- A received byte decodes to the TOKEN row of its class. Rests on 30_encoding.md R95. -/
def Obligations.EveryByteIsOfOneClass : Prop :=
  ∀ (P : Params) (b : Byte) (now : Rat), P.WF →
    (b = P.eop → decodeToken P b now = .byteEOP b now) ∧
    (b = P.esc → decodeToken P b now = .byteESC b now) ∧
    (b ≠ P.eop → b ≠ P.esc → decodeToken P b now = .byteDATA b now) ∧
    (decodeToken P b now).wellFormed P = true

/-- One step takes the next input event and runs it; with none presented the block waits. Rests on 00_scope.md R15,
10_state.md R38, 20_memory.md R75. The model's choice in it: log entry 4. -/
def Obligations.StepRunsTheNextInputEvent : Prop :=
  (∀ (s : State) (e : Event) (rest : List Event), s.inbox = e :: rest →
    step s = exec e.toInstr { s with inbox := rest }) ∧
  (∀ s : State, s.inbox = [] → step s = .next s)

/-- RXBYTE runs the TOKEN row its byte decodes to; the TOKEN rows complete on bytes of their class. Rests on
42_scanner.md R150, 30_encoding.md R95, R117. The model's choice in it: log entry 9. -/
def Obligations.RxbyteRunsTheTokenOfItsByte : Prop :=
  (∀ (s : State) (b : Byte) (now : Rat), ∃ t,
    exec (.rxbyte b now) s = .next t ∧ exec (decodeToken s.par b now) s = .next t) ∧
  (∀ (s : State) (b : Byte) (now : Rat),
    ((Instr.byteEOP b now).wellFormed s.par = true →
      ∃ t, exec (.byteEOP b now) s = .next t ∧ exec (.rxbyte b now) s = .next t) ∧
    ((Instr.byteESC b now).wellFormed s.par = true →
      ∃ t, exec (.byteESC b now) s = .next t ∧ exec (.rxbyte b now) s = .next t) ∧
    ((Instr.byteDATA b now).wellFormed s.par = true →
      ∃ t, exec (.byteDATA b now) s = .next t ∧ exec (.rxbyte b now) s = .next t)) ∧
  (∀ (s : State) (i : Instr), isToken i = true → i.wellFormed s.par = false →
    exec i s = .refused .tokenClassMismatch)

/-- The step that accepts a frame runs the HDR instruction its payload decodes to. Rests on 42_scanner.md R158, R161,
R162, 43_packet_decode.md R180, R183, R207. -/
def Obligations.AcceptedFrameRunsItsDecodedPacket : Prop :=
  ∀ (s : State) (b : Byte) (now : Rat) (i : Instr), s.st = .readTrail →
    (s.verifyEn = true → b = 0 ∨ b = s.cks) → decode now s.pay = .ok i →
      ∃ u, exec i { s with outs := s.outs ++ [.frame s.pay] } = .next u ∧
        exec (.rxbyte b now) s = .next { u with st := .seekStart, esc := false, cks := 0, pay := [], raw := [] }

/-- A header-map word placed by withFetchWord is what the next step runs. Rests on 30_encoding.md R117, 42_scanner.md
R160, R161. The model's choice in it: log entry 8. -/
def Obligations.PlacedTableWordRunsNext : Prop :=
  ∀ (s : State) (nbits w : Nat) (i : Instr), decodeTableWord nbits w = some i →
    ∃ u, exec i { s with outs := s.outs ++ [.frame (tableWordBytes nbits w)] } = .next u ∧
      step (s.withFetchWord nbits w) =
        .next { u with st := .seekStart, esc := false, cks := 0, pay := [], raw := [] }

/-- Every step has a next state, and so has every well-formed instruction. Formalises R164. -/
def Obligations.NoStepStops : Prop :=
  (∀ (s : State) (e : Event) (rest : List Event), s.inbox = e :: rest → s.Safe) ∧
  (∀ (s : State) (b : Byte) (now : Rat), ∃ t, exec (.rxbyte b now) s = .next t) ∧
  (∀ (s : State) (i : Instr), i.wellFormed s.par = true → ∃ t, exec i s = .next t)

/-- The registers after reset hold the values of the reset column. Rests on 10_state.md section 1 (the table of R20),
70_reset_and_hazards.md R292. -/
def Obligations.ResetStateValues : Prop :=
  State.reset.st = .seekStart ∧ State.reset.esc = false ∧ State.reset.cks = 0 ∧ State.reset.pay = [] ∧
  State.reset.raw = [] ∧ State.reset.verifyEn = true ∧ State.reset.lastSeq = 0 ∧ State.reset.synced = false ∧
  State.reset.tickAcc = 0 ∧ State.reset.txSeq = 0 ∧
  (∀ sid, State.reset.lastRealTimeOf sid = 0 ∧ State.reset.lastDevTsOf sid = 0) ∧ State.reset.par.WF

/-- RESET puts every register at its reset value, withdraws no output and is idempotent. Rests on
70_reset_and_hazards.md R290, R293. The model's choice in it: the values of lastSyncTs and firstSyncWall (log
entries 2 and 3), and that the pending events stay, t.inbox = s.inbox (log entry 16). -/
def Obligations.ResetEventRestoresEveryRegister : Prop :=
  ∀ s : State, ∃ t, exec .reset s = .next t ∧
    t.st = .seekStart ∧ t.esc = false ∧ t.cks = 0 ∧ t.pay = [] ∧ t.raw = [] ∧ t.verifyEn = true ∧
    t.lastSeq = 0 ∧ t.synced = false ∧ t.tickAcc = 0 ∧ t.txSeq = 0 ∧
    (∀ sid, t.lastRealTimeOf sid = 0 ∧ t.lastDevTsOf sid = 0) ∧
    t.lastSyncTs = Config.lastSyncTsAtReset ∧ t.firstSyncWall = Config.firstSyncWallAtReset ∧
    t.outs = s.outs ∧ t.inbox = s.inbox ∧ t.par = s.par ∧ t.result = .none ∧ exec .reset t = .next t

/-- SETVERIFY writes verifyEn and nothing else, in any scanner state. Rests on 42_scanner.md R163, 20_memory.md R72. -/
def Obligations.SetverifyWritesOnlyVerifyEn : Prop :=
  ∀ (s : State) (v : Bool), exec (.setverify v) s = .next { s with verifyEn := v, result := .none } ∧
    exec (.setverify v) { s with verifyEn := v, result := .none } = .next { s with verifyEn := v, result := .none }

/-- SETVERIFY decides the frame in progress, by the step that consumes its trailing byte. Formalises R81. -/
def Obligations.VerifyOptionIsSampledAtCompletion : Prop :=
  (∀ (s t : State) (v : Bool) (b : Byte) (now : Rat), s.st ≠ .readTrail → exec (.rxbyte b now) s = .next t →
    exec (.rxbyte b now) { s with verifyEn := v } = .next { t with verifyEn := v }) ∧
  ∀ (s u t : State) (v : Bool) (mid : List RxByte) (b : Byte) (now : Rat),
    exec (.setverify v) s = .next u → t = u.rxAll mid → t.st = .readTrail → t.pay ≠ [] →
      t.verifyEn = v ∧ ∃ w, exec (.rxbyte b now) t = .next w ∧
        ((v = true ∧ b ≠ 0 ∧ b ≠ t.cks) →
          newOutputs t w = [.ev (.badChecksum b t.cks t.pay.length)]) ∧
        (¬(v = true ∧ b ≠ 0 ∧ b ≠ t.cks) → ∃ more, newOutputs t w = .frame t.pay :: more)

/-- CKSUM computes the rotate-left-and-add checksum from 0 and changes no register. Formalises R130. -/
def Obligations.CksumIsRotateThenAdd : Prop :=
  (∀ (s : State) (bytes : List Byte), ∃ v : Byte, exec (.cksum bytes) s = .next { s with result := .cksum v } ∧
    v.toNat = bytes.foldl (fun a b => ((a * 2) % 256 + a / 128 + b.toNat) % 256) 0) ∧
  cksum [] = 0 ∧ (∀ b, cksum [b] = b) ∧ (∀ n, cksum (List.replicate n 0) = 0) ∧
  (∀ n bytes, cksum (List.replicate n 0 ++ bytes) = cksum bytes) ∧
  cksum [0x04, 0x15, 0x00, 0x00, 0x00, 0x03] = 0xD4

/-- Any single-bit flip changes the checksum; not every reordering does. Formalises R132. -/
def Obligations.CksumDetectsEverySingleBitFlip : Prop :=
  (∀ (pre post : List Byte) (b : Byte) (k : Nat), k < 8 →
    cksum (pre ++ [b ^^^ BitVec.ofNat 8 (2 ^ k)] ++ post) ≠ cksum (pre ++ [b] ++ post)) ∧
  (∀ b : Byte, Function.Bijective fun a => ckstep a b) ∧
  cksum [1, 2, 3] = 0x0B ∧ cksum [3, 2, 1] = 0x11 ∧ (∀ x : Byte, cksum [0, x] = cksum [x])

/-- ESCAPE replaces every ESC by ESC ESC, then every EOP by ESC EOP. Formalises R133. -/
def Obligations.EscapeIsTheTwoOrderedReplacements : Prop :=
  ∀ (s : State) (bytes : List Byte), s.par.WF →
    exec (.escape bytes) s = .next (s.after []
      (.bytes ((bytes.flatMap fun b => if b = s.par.esc then [s.par.esc, s.par.esc] else [b]).flatMap
        fun b => if b = s.par.eop then [s.par.esc, s.par.eop] else [b]))) ∧
    escape s.par bytes =
      (bytes.flatMap fun b => if b = s.par.esc ∨ b = s.par.eop then [s.par.esc, b] else [b]) ∧
    (escape s.par bytes).length = bytes.length + bytes.countP (fun b => b == s.par.eop || b == s.par.esc) ∧
    (s.par.eop ∈ bytes → escape s.par bytes ≠
      ((bytes.flatMap fun b => if b = s.par.eop then [s.par.esc, s.par.eop] else [b]).flatMap
        fun b => if b = s.par.esc then [s.par.esc, s.par.esc] else [b]))

/-- UNESCAPE drops each escape and copies the byte after it; a dangling ESC is dropped. Formalises R135. -/
def Obligations.UnescapeReadsByteByByte : Prop :=
  (∀ (s : State) (bytes : List Byte),
    exec (.unescape bytes) s = .next { s with result := .bytes (unescape s.par bytes) }) ∧
  (∀ P : Params, unescape P [] = [] ∧ unescape P [P.esc] = [] ∧
    (∀ (x : Byte) (rest : List Byte), unescape P (P.esc :: x :: rest) = x :: unescape P rest) ∧
    (∀ (b : Byte) (rest : List Byte), b ≠ P.esc → unescape P (b :: rest) = b :: unescape P rest))

/-- UNESCAPE of ESCAPE is the identity, an escaped payload holds no unescaped EOP, and the converse fails. Formalises
R136. -/
def Obligations.UnescapeInvertsEscape : Prop :=
  ∀ s : State, s.par.WF →
    (∀ bytes : List Byte, exec (.unescape (escape s.par bytes)) s = .next { s with result := .bytes bytes } ∧
      NoOpenEop s.par (escape s.par bytes)) ∧
    (∃ w : List Byte, escape s.par (unescape s.par w) ≠ w)

/-- BUILDFRAME returns EOP, lead byte 0, the escaped payload, EOP, and the checksum over the escaped payload. Formalises
R137. -/
def Obligations.BuildframeWritesTheWireFrame : Prop :=
  ∀ (s : State) (id seq : Byte) (words : List Word),
    let e := escape s.par (id :: seq :: words.flatMap fun w =>
      [BitVec.ofNat 8 (w.toNat / 2 ^ 24), BitVec.ofNat 8 (w.toNat / 2 ^ 16), BitVec.ofNat 8 (w.toNat / 2 ^ 8),
        BitVec.ofNat 8 w.toNat])
    exec (.buildframe id seq words) s =
      .next { s with result := .bytes ([s.par.eop, 0x00] ++ e ++ [s.par.eop, cksum e]) }

/-- TXSEQ steps the sequence counter 1..255, skipping 0. Rests on 41_codec.md R139. The model's choice in it: log entry
12. -/
def Obligations.TxseqCyclesThrough1To255 : Prop :=
  (∀ s : State, ∃ n : Byte, exec .txseq s = .next { s with txSeq := n, result := .seq n } ∧
    n.toNat = if s.txSeq.toNat = 255 then 1 else s.txSeq.toNat + 1) ∧
  (∀ k : Nat, ((nextSeq^[k + 1]) State.reset.txSeq).toNat = k % 255 + 1) ∧
  (∀ (s : State) (k : Nat) (value : Option Word), k < 19 → ∃ t, exec (.send (.id k) value) s = .next t ∧
    t.txSeq = nextSeq s.txSeq ∧
    t.outs = s.outs ++ [.tx (buildFrame s.par (BitVec.ofNat 8 k) (nextSeq s.txSeq) value.toList)])

/-- SEND of a known name or id sends one frame with the advanced sequence number; of an unknown one it only reports.
Formalises R138, R140. -/
def Obligations.SendResolvesAndTransmits : Prop :=
  (∀ (s : State) (m : MsgRef) (value : Option Word) (k : Nat), k < 19 →
    (m = .id k ∨ ∃ nm, m = .name nm ∧ nameTable[k]? = some nm) →
      ∃ (n : Byte) (f : List Byte), n.toNat = (if s.txSeq.toNat = 255 then 1 else s.txSeq.toNat + 1) ∧
        exec (.buildframe (BitVec.ofNat 8 k) n (match value with | none => [] | some v => [v])) s =
          .next { s with result := .bytes f } ∧
        exec (.send m value) s =
          .next { s with txSeq := n, outs := s.outs ++ [.tx f], result := .sent true }) ∧
  (∀ (s : State) (m : MsgRef) (value : Option Word),
    ((∃ nm, m = .name nm ∧ nm ∉ nameTable) ∨ ∃ k, m = .id k ∧ 18 < k) →
      exec (.send m value) s = .next (s.after [.ev (.unknownMessageName m)] (.sent false)))

/-- RXBYTE in SeekStart, ReadLead and Collecting: the rows of the transition table. Formalises R151, R152, R153, R154,
R155, R156, R157. -/
def Obligations.ScannerTransitionsBeforeTheTrailingByte : Prop :=
  ∀ (s : State) (b : Byte) (now : Rat),
    (s.st = .seekStart → b = s.par.eop → exec (.rxbyte b now) s =
      .next { s with st := .readLead, raw := s.raw ++ [b], result := .none }) ∧
    (s.st = .seekStart → b ≠ s.par.eop → exec (.rxbyte b now) s = .next { s with raw := [], result := .none }) ∧
    (s.st = .readLead → exec (.rxbyte b now) s =
      .next { s with st := .collecting, esc := false, cks := 0, pay := [], raw := s.raw ++ [b], result := .none }) ∧
    (s.st = .collecting → s.esc = true → exec (.rxbyte b now) s =
      .next { s with pay := s.pay ++ [b], cks := ckstep s.cks b, esc := false, raw := s.raw ++ [b], result := .none }) ∧
    (s.st = .collecting → s.esc = false → b ≠ s.par.eop → b = s.par.esc → exec (.rxbyte b now) s =
      .next { s with esc := true, cks := ckstep s.cks s.par.esc, raw := s.raw ++ [b], result := .none }) ∧
    (s.st = .collecting → s.esc = false → b = s.par.eop → exec (.rxbyte b now) s =
      .next { s with st := .readTrail, raw := s.raw ++ [b], result := .none }) ∧
    (s.st = .collecting → s.esc = false → b ≠ s.par.eop → b ≠ s.par.esc → exec (.rxbyte b now) s =
      .next { s with pay := s.pay ++ [b], cks := ckstep s.cks b, raw := s.raw ++ [b], result := .none })

/-- RXBYTE in ReadTrail: empty payload, checksum mismatch, or acceptance; then back to SeekStart. Formalises R158, R159,
R160, R161. -/
def Obligations.FrameCompletionHasThreeArms : Prop :=
  ∀ (s : State) (b : Byte) (now : Rat), s.st = .readTrail →
    (s.pay = [] → exec (.rxbyte b now) s = .next
      { s with st := .seekStart, esc := false, cks := 0, pay := [], raw := [],
               outs := s.outs ++ [.ev .emptyPayload], result := .none }) ∧
    (s.pay ≠ [] → s.verifyEn = true → b ≠ 0 → b ≠ s.cks → exec (.rxbyte b now) s = .next
      { s with st := .seekStart, esc := false, cks := 0, pay := [], raw := [],
               outs := s.outs ++ [.ev (.badChecksum b s.cks s.pay.length)], result := .none }) ∧
    (∀ h t, s.pay = h :: t → ¬(s.verifyEn = true ∧ b ≠ 0 ∧ b ≠ s.cks) →
      ∃ u, exec (.classify ⟨h, t⟩ now) { s with outs := s.outs ++ [.frame s.pay] } = .next u ∧
        exec (.rxbyte b now) s = .next { u with st := .seekStart, esc := false, cks := 0, pay := [], raw := [] })

/-- esc = 1 only while st = Collecting: kept by every step. Rests on 42_scanner.md R170 (its invariant), 10_state.md
R27. -/
def Obligations.EscapeFlagOnlyWhileCollecting : Prop :=
  ∀ s t : State, (s.esc = true → s.st = .collecting) → step s = .next t → (t.esc = true → t.st = .collecting)

/-- In every state the scanner's registers are what the wire bytes of the frame in progress make them: kept by every
step. Rests on 42_scanner.md R167, R168, 10_state.md R43. -/
def Obligations.ScannerRegistersDescribeTheWireBytes : Prop :=
  (∀ (i : Instr) (s t : State), s.WireInv → exec i s = .next t → t.WireInv) ∧
  (∀ s t : State, s.WireInv → step s = .next t → t.WireInv)

/-- The restart law: the scanner run from reset over raw reproduces its registers and outputs nothing; kept by every
step. Rests on 42_scanner.md R169 (restart law), 10_state.md R43. -/
def Obligations.ScannerStateIsAFunctionOfRaw : Prop :=
  (∀ (i : Instr) (s t : State), s.ReplaysRaw → exec i s = .next t → t.ReplaysRaw) ∧
  (∀ s t : State, s.ReplaysRaw → step s = .next t → t.ReplaysRaw)

/-- The reset state meets the scanner's invariants. Rests on 10_state.md R20, 42_scanner.md R169, R170. -/
def Obligations.ResetMeetsTheInvariants : Prop :=
  (State.reset.esc = true → State.reset.st = .collecting) ∧ State.reset.WireInv ∧ State.reset.ReplaysRaw

/-- SCAN starts from the scanner's reset registers, runs RXBYTE for each byte, and returns the frames output and raw.
Rests on 42_scanner.md R169. The model's choice in it: that SCAN leaves RXBYTE's whole next state, packets, lastSeq
and clock included (log entry 13), and one clock reading for each byte (log entry 7). -/
def Obligations.ScanRunsTheBufferThroughRxbyte : Prop :=
  (∀ s : State, exec (.scan []) s = .next
    { s with st := .seekStart, esc := false, cks := 0, pay := [], raw := [], result := .scanned [] [] }) ∧
  (∀ (s : State) (buf : List RxByte) (x : RxByte), ∃ (u w : State) (frames : List (List Byte)),
    exec (.scan buf) s = .next u ∧ u.result = .scanned frames u.raw ∧ exec (.rxbyte x.b x.now) u = .next w ∧
    exec (.scan (buf ++ [x])) s =
      .next { w with result := .scanned (frames ++ framesOf (newOutputs u w)) w.raw })

/-- Scanning a buffer at once and scanning it in two pieces with the remainder carried over agree. Formalises R166. -/
def Obligations.ScanIsRestartable : Prop :=
  ∀ (s u v : State) (a b again : List RxByte) (f1 f2 : List (List Byte)) (r r2 : List Byte),
    exec (.scan a) s = .next u → u.result = .scanned f1 r → again.map (·.b) = r →
    exec (.scan (again ++ b)) u = .next v → v.result = .scanned f2 r2 →
      exec (.scan (a ++ b)) s = .next { v with result := .scanned (f1 ++ f2) r2 }

/-- A well-formed frame fed to a scanner in SeekStart outputs exactly its payload as one frame. Rests on 42_scanner.md
R168 (its last sentence), R161, R162. -/
def Obligations.ScannerRecoversEveryEscapedPayload : Prop :=
  ∀ (s : State) (p : Payload) (lead : Byte) (clock : Nat → Rat) (rest : List Event),
    s.st = .seekStart → s.par.WF →
      let w := escape s.par p.bytes
      let wire := [s.par.eop, lead] ++ w ++ [s.par.eop, cksum w]
      ∃ u, exec (.classify p (clock (w.length + 3)))
          { s with inbox := rest, outs := s.outs ++ [.frame p.bytes] } = .next u ∧
        Host.Core.run Sys2Proof.core wire.length { s with inbox := rxEvents clock wire ++ rest } =
          .next { u with st := .seekStart, esc := false, cks := 0, pay := [], raw := [] }

/-- Feeding the frame SEND builds back into the block recovers the message, its sequence number and its word. Rests on
41_codec.md R141, 42_scanner.md R168. -/
def Obligations.SentFrameIsReceivedBack : Prop :=
  ∀ (s : State) (m : MsgRef) (value : Option Word) (id : MsgId) (clock : Nat → Rat) (rest : List Event),
    s.st = .seekStart → s.par.WF → resolve m = some id →
      ∃ (n : Byte) (frame payload : List Byte) (t : State),
        n = nextSeq s.txSeq ∧ payload = framePayload (BitVec.ofNat 8 id.val) n value.toList ∧
        frame = buildFrame s.par (BitVec.ofNat 8 id.val) n value.toList ∧
        Host.Core.run Sys2Proof.core (1 + frame.length)
          { s with inbox := .send m value :: rxEvents clock frame ++ rest } = .next t ∧
        s.outs ++ [.tx frame, .frame payload, .ctrl id n value.toList] <+: t.outs ∧
        (id ≠ 13 → t.outs = s.outs ++ [.tx frame, .frame payload, .ctrl id n value.toList]) ∧
        t.lastSeq = n ∧ t.txSeq = n ∧ t.st = .seekStart ∧ t.inbox = rest

/-- The six bytes x, ESC, EOP, x, EOP, y bring the scanner to SeekStart from every control state. Rests on
70_reset_and_hazards.md R297. -/
def Obligations.ResyncSequenceReachesSeekStart : Prop :=
  ∀ (s : State) (x y : Byte) (clock : Nat → Rat) (rest : List Event),
    s.par.WF → x ≠ s.par.eop → x ≠ s.par.esc →
      ∃ t, Host.Core.run Sys2Proof.core 6
          { s with inbox := rxEvents clock [x, s.par.esc, s.par.eop, x, s.par.eop, y] ++ rest } = .next t ∧
        t.st = .seekStart ∧ t.inbox = rest ∧ (newOutputs s t).countP isCompletion ≤ 2

/-- The first twelve control messages are delivered on ctrl_out with no other effect. Formalises R186, R187, R188, R189,
R190, R191, R192, R193, R194, R195, R196, R197. -/
def Obligations.ControlMessagesAreDelivered : Prop :=
  ∀ (s : State) (seq : Byte) (words : List Word),
    let delivered := fun id : MsgId =>
      Host.Outcome.next { s with lastSeq := seq, outs := s.outs ++ [.ctrl id seq words], result := .none }
    exec (.talk seq words) s = delivered 0 ∧ exec (.overMsg seq words) s = delivered 1 ∧
    exec (.bad seq words) s = delivered 2 ∧ exec (.version seq words) s = delivered 3 ∧
    exec (.start seq words) s = delivered 4 ∧ exec (.stop seq words) s = delivered 5 ∧
    exec (.set seq words) s = delivered 6 ∧ exec (.dir seq words) s = delivered 7 ∧
    exec (.query seq words) s = delivered 8 ∧ exec (.info seq words) s = delivered 9 ∧
    exec (.dig seq words) s = delivered 10 ∧ exec (.wav seq words) s = delivered 11

/-- The control messages point, avg, timer, event, resetevents and trigger are delivered with no other effect.
Formalises R198, R200, R201, R202, R203, R204. -/
def Obligations.LaterControlMessagesAreDelivered : Prop :=
  ∀ (s : State) (seq : Byte) (words : List Word),
    let delivered := fun id : MsgId =>
      Host.Outcome.next { s with lastSeq := seq, outs := s.outs ++ [.ctrl id seq words], result := .none }
    exec (.point seq words) s = delivered 12 ∧ exec (.avg seq words) s = delivered 14 ∧
    exec (.timer seq words) s = delivered 15 ∧ exec (.event seq words) s = delivered 16 ∧
    exec (.resetevents seq words) s = delivered 17 ∧ exec (.trigger seq words) s = delivered 18

/-- sync is delivered, and then its first word drives the clock; without a word it only reports. Formalises R199. -/
def Obligations.SyncMessageDrivesTheClock : Prop :=
  ∀ (s : State) (seq : Byte) (now : Rat),
    exec (.sync seq [] now) s = .next
      { s with lastSeq := seq, outs := s.outs ++ [.ctrl 13 seq [], .ev .syncNoWord], result := .none } ∧
    ∀ (t : Word) (more : List Word), ∃ u, exec (.sync seq (t :: more) now) s = .next u ∧
      exec (.clockSync t now) { s with lastSeq := seq, outs := s.outs ++ [.ctrl 13 seq (t :: more)] } = .next u

/-- A control payload with id 19..127 is reported and gives no packet. Formalises R184. -/
def Obligations.UnassignedIdIsReported : Prop :=
  (∀ (s : State) (id : BitVec 7) (seq : Byte), 19 ≤ id.toNat →
    exec (.ctrlUnassigned id seq) s =
      .next (s.after [.ev (.badControlId (BitVec.ofNat 8 id.toNat) seq)] .none)) ∧
  (∀ (s : State) (h seq : Byte) (body : List Byte) (now : Rat), 19 ≤ h.toNat → h.toNat ≤ 127 →
    exec (.ctrl ⟨h, seq :: body⟩ now) s = .next (s.after [.ev (.badControlId h seq)] .none))

/-- CTRL: a short payload is reported; otherwise the words are the big-endian groups of four bytes, a partial one
dropped. Rests on 43_packet_decode.md R181, R182, R183, R184. The model's choice in it: the first and the third
clause on header bytes of 0x80 and above, which R181 keeps from CTRL (log entry 11). -/
def Obligations.CtrlReadsBigEndianWords : Prop :=
  (∀ (s : State) (h : Byte) (now : Rat),
    exec (.ctrl ⟨h, []⟩ now) s = .next (s.after [.ev (.shortControl h)] .none)) ∧
  (∀ (s : State) (h seq : Byte) (body : List Byte) (now : Rat) (id : h.toNat < 19),
    ∃ u, exec (.ctrl ⟨h, seq :: body⟩ now) s = .next u ∧
      exec (controlInstr ⟨h.toNat, id⟩ seq (wordsByIndex body) now) s = .next u ∧
      u.lastSeq = seq ∧ s.outs ++ [.ctrl ⟨h.toNat, id⟩ seq (wordsByIndex body)] <+: u.outs ∧
      (h ≠ 13 → u = { s with
        lastSeq := seq, outs := s.outs ++ [.ctrl ⟨h.toNat, id⟩ seq (wordsByIndex body)], result := .none })) ∧
  (∀ (s : State) (h seq : Byte) (body : List Byte) (now : Rat), 19 ≤ h.toNat →
    exec (.ctrl ⟨h, seq :: body⟩ now) s = .next (s.after [.ev (.badControlId h seq)] .none))

/-- CLASSIFY runs STRM on a payload whose header bit 7 is set, CTRL on any other. Formalises R180. -/
def Obligations.ClassifySelectsOnBit7 : Prop :=
  ∀ (s : State) (p : Payload) (now : Rat), ∃ u, exec (.classify p now) s = .next u ∧
    (128 ≤ p.hdr.toNat → exec (.strm p) s = .next u) ∧ (p.hdr.toNat < 128 → exec (.ctrl p now) s = .next u)

/-- The value stream is the header's low nibble and then every later byte, each most significant bit first. Rests on
20_memory.md R63, R64, R66, 43_packet_decode.md R205. -/
def Obligations.StreamBitsAreMsbFirst : Prop :=
  ∀ (nib : BitVec 4) (rest : List Byte),
    (valueStream nib rest).length = 4 + 8 * rest.length ∧
    (∀ j, j < 4 → (valueStream nib rest)[j]? = some (nib.getLsbD (3 - j))) ∧
    (∀ j b, rest[j / 8]? = some b → (valueStream nib rest)[4 + j]? = some (b.getLsbD (7 - j % 8)))

/-- STRM and stream: the samples by payload length, 32, 12 k times, 32, with 0, 4 or 8 bits left over. Rests on
43_packet_decode.md R205, R207, R210. The model's choice in it: STRM on a payload with header bit 7 clear, which
R205 keeps from it (log entry 11). -/
def Obligations.StreamSamplesHaveTheTableShapes : Prop :=
  ∀ (s : State) (p : Payload) (sid : StreamId) (nib : BitVec 4) (rest : List Byte),
    exec (.stream sid nib rest) s = .next
      (s.after [.strm sid (samplesByShape (rest.length + 1) (valueStream nib rest))] .none) ∧
    exec (.strm p) s = .next (s.after [.strm (BitVec.ofNat 3 (p.hdr.toNat / 16))
      (samplesByShape (p.rest.length + 1) (valueStream (BitVec.ofNat 4 p.hdr.toNat) p.rest))] .none) ∧
    (∀ n, 1 ≤ n → n < 5 → 8 * n - 4 ∈ [4, 12, 20, 28]) ∧ (∀ n, 5 ≤ n → n < 9 → 8 * n - 4 - 32 ∈ [4, 12, 20, 28]) ∧
    (∀ n, 9 ≤ n → 8 * n - 68 - 12 * ((8 * n - 68) / 12) ∈ [0, 4, 8]) ∧
    (∀ n, 9 ≤ n → 32 + 12 * ((8 * n - 68) / 12) + 32 + (8 * n - 68 - 12 * ((8 * n - 68) / 12)) = 8 * n - 4)

/-- A stream payload laid out as 32 bits, any number of 12-bit values, 32 bits and padding decodes to exactly those
values. Rests on 43_packet_decode.md R210 (its last sentence), 92_eei_decisions.md D12. -/
def Obligations.StreamDecodeInvertsTheTransmitter : Prop :=
  ∀ (s : State) (sid : StreamId) (nib : BitVec 4) (rest : List Byte) (first last : Word)
    (mids : List (BitVec 12)) (pad : List Bool),
    valueStream nib rest = bitsMsb first ++ mids.flatMap bitsMsb ++ bitsMsb last ++ pad → pad.length < 8 →
      exec (.stream sid nib rest) s =
        .next (s.after [.strm sid (first :: mids.map (fun m => m.setWidth 32) ++ [last])] .none)

/-- The first SYNC sets firstSyncWall, lastSyncTs and synced, clears tickAcc, and reports nothing. Formalises R231. -/
def Obligations.FirstSyncSeedsTheClock : Prop :=
  ∀ (s : State) (t : Word) (now : Rat), s.synced = false → exec (.clockSync t now) s =
    .next { s with firstSyncWall := now, lastSyncTs := t, tickAcc := 0, synced := true, result := .none }

/-- SYNC when synced: elapsed ticks, accumulation, sanity window, drift correction, in that order. Formalises R232,
R233, R234, R235. -/
def Obligations.LaterSyncAccumulatesChecksAndCorrects : Prop :=
  ∀ (s : State) (t : Word) (now : Rat), s.synced = true →
    let elapsed : Nat := if s.lastSyncTs.toNat ≤ t.toNat then t.toNat - s.lastSyncTs.toNat
      else t.toNat + (2 ^ 32 - 1 - s.lastSyncTs.toNat)
    let acc : Nat := (s.tickAcc.toNat + elapsed) % 2 ^ 64
    let drift : Rat := (acc : Rat) / s.par.clockHz - (now - s.firstSyncWall)
    let scaled : Rat := drift * s.par.clockHz
    let adj : Int := if 0 ≤ scaled then ⌊scaled⌋ else ⌈scaled⌉
    ∃ u, exec (.clockSync t now) s = .next u ∧
      (|drift| > 1 → (u.tickAcc.toNat : Int) = max 0 ((acc : Int) - adj) % 2 ^ 64) ∧
      (¬|drift| > 1 → u.tickAcc.toNat = acc) ∧
      u.outs = s.outs ++
        (if |(elapsed : Int) - s.par.syncPeriod| > s.par.syncTol then [.ev (.syncOutOfWindow elapsed)] else []) ++
        (if |drift| > 1 then [.ev (.driftCorrected drift adj)] else []) ∧
      u = { s with tickAcc := u.tickAcc, lastSyncTs := t, outs := u.outs, result := .none } ∧
      elapsed ≤ 2 ^ 32 - 1

/-- After a drift correction the device-derived time is within one tick of the wall-derived time. Rests on 44_clock.md
R235, 92_eei_decisions.md D18. -/
def Obligations.DriftCorrectionMeetsTheWallClock : Prop :=
  ∀ (s u : State) (t : Word) (now : Rat), s.synced = true → 0 < s.par.clockHz →
    0 ≤ now - s.firstSyncWall → (now - s.firstSyncWall) * s.par.clockHz < 2 ^ 64 - 1 →
    exec (.clockSync t now) s = .next u → (∃ d a, .ev (.driftCorrected d a) ∈ newOutputs s u) →
      |(u.tickAcc.toNat : Rat) - (now - s.firstSyncWall) * s.par.clockHz| < 1

/-- A SYNC that reports no drift correction never lowers tickAcc, and accumulates at most 2^32 - 1 ticks. Rests on
44_clock.md R237. -/
def Obligations.AccumulatorNeverFallsWithoutCorrection : Prop :=
  ∀ (s u : State) (t : Word) (now : Rat), s.synced = true → s.tickAcc.toNat + 2 ^ 32 ≤ 2 ^ 64 →
    exec (.clockSync t now) s = .next u → (∀ d a, .ev (.driftCorrected d a) ∉ newOutputs s u) →
      s.tickAcc.toNat ≤ u.tickAcc.toNat ∧ u.tickAcc.toNat ≤ s.tickAcc.toNat + (2 ^ 32 - 1)

/-- REALTIME when synced: the four cases of the tick distance, the regression check, the table update and the result.
Formalises R241, R242, R243, R244, R245. -/
def Obligations.RealtimeFollowsItsFourCases : Prop :=
  ∀ (s : State) (ts : Word) (sid : StreamId), s.synced = true →
    ∃ (delta : Int) (u : State), exec (.realtime ts sid) s = .next u ∧
      (let now := (ts.toNat : Int)
       let last := (s.lastSyncTs.toNat : Int)
       (last ≤ now → now - last ≤ 2 ^ 31 → delta = now - last) ∧
       (now < last → last - now > 2 ^ 31 → delta = now + (2 ^ 32 - 1 - last) ∧ 0 ≤ delta ∧ delta < 2 ^ 31 - 1) ∧
       (now < last → last - now ≤ 2 ^ 31 → delta = now - last) ∧
       (last ≤ now → now - last > 2 ^ 31 → delta = now - last - 2 ^ 32 ∧ -2 ^ 31 < delta ∧ delta < 0)) ∧
      (-2 ^ 31 ≤ delta ∧ delta ≤ 2 ^ 31) ∧
      (let ticks : Int := s.tickAcc.toNat + delta
       let seconds : Rat := (ticks : Rat) / s.par.clockHz
       u.outs = s.outs ++
         (if s.lastRealTimeOf sid - seconds > 1 / 2 then
           [.ev (.timeRegression sid (s.lastRealTimeOf sid) seconds (s.lastDevTsOf sid) ts)] else []) ++
         [.rt sid ticks seconds] ∧
       (∀ k, u.lastRealTimeOf k = if k = sid then seconds else s.lastRealTimeOf k) ∧
       (∀ k, u.lastDevTsOf k = if k = sid then ts else s.lastDevTsOf k)) ∧
      u = { s with outs := u.outs, lastRealTime := u.lastRealTime, lastDevTs := u.lastDevTs, result := .none }

/-- REALTIME before the first sync reports EV_NOT_SYNCED and changes nothing. Formalises R271. -/
def Obligations.RealtimeBeforeSyncOnlyReports : Prop :=
  ∀ (s : State) (ts : Word) (sid : StreamId), s.synced = false →
    exec (.realtime ts sid) s = .next (s.after [.ev (.notSynced ts sid)] .none)

/-- The rollover arms are one tick short of modulo 2^32 arithmetic; the other arms are exact. Rests on
70_reset_and_hazards.md R300, 44_clock.md R232, R242, R244, R247. -/
def Obligations.EachRolloverLosesOneTick : Prop :=
  ∀ last t : Word,
    (last.toNat ≤ t.toNat → elapsedTicks last t = (t - last).toNat) ∧
    (t.toNat < last.toNat → elapsedTicks last t + 1 = (t - last).toNat) ∧
    (t.toNat < last.toNat → last.toNat - t.toNat > 2 ^ 31 → BitVec.ofInt 32 (realtimeDelta last t + 1) = t - last) ∧
    (last.toNat ≤ t.toNat ∨ last.toNat - t.toNat ≤ 2 ^ 31 → BitVec.ofInt 32 (realtimeDelta last t) = t - last)

/-- No instruction and no step withdraws or reorders an output. Rests on 10_state.md R40, 70_reset_and_hazards.md R290,
20_memory.md R75. -/
def Obligations.OutputsAreOnlyAppended : Prop :=
  (∀ (i : Instr) (s t : State), exec i s = .next t → s.outs <+: t.outs) ∧
  (∀ s t : State, step s = .next t → s.outs <+: t.outs)

/-- No instruction changes the parameters or the pending events; a step takes one event off the front of those pending,
if there is one. Rests on 70_reset_and_hazards.md R294, 10_state.md R32, R38, 00_scope.md R15. The model's choice in
it: the wait when no event is pending (log entry 4), and that RESET leaves the pending events (log entry 16). -/
def Obligations.ParametersAndPendingEventsAreKept : Prop :=
  (∀ (i : Instr) (s t : State), exec i s = .next t → t.par = s.par ∧ t.inbox = s.inbox) ∧
  (∀ s t : State, step s = .next t → t.par = s.par ∧ t.inbox = s.inbox.tail)

/-- verifyEn, txSeq and the scanner's registers change only through the operations the spec names. Rests on 10_state.md
R20 (written by), R25, R30, R36. -/
def Obligations.RegistersHaveTheirOwnWriters : Prop :=
  (∀ (i : Instr) (s t : State), exec i s = .next t →
    (t.verifyEn ≠ s.verifyEn → (∃ v, i = .setverify v) ∨ i = .reset) ∧
    (t.txSeq ≠ s.txSeq → (∃ m v, i = .send m v) ∨ i = .txseq ∨ i = .reset) ∧
    (¬s.ScannerSame t → (∃ b now, i = .rxbyte b now) ∨ isToken i = true ∨ (∃ buf, i = .scan buf) ∨ i = .reset)) ∧
  (∀ s t : State, step s = .next t → ¬s.ScannerSame t →
    (∃ b now rest, s.inbox = .rxbyte b now :: rest) ∨ ∃ rest, s.inbox = .reset :: rest)

/-- The clock state changes only through a sync packet, REALTIME or RESET. Formalises R249. -/
def Obligations.ClockChangesOnlyBySyncRealtimeReset : Prop :=
  ∀ s t : State, step s = .next t →
    (s.SyncRegsSame t ∧ s.TableSame t) ∨
    (∃ rest, s.inbox = .reset :: rest) ∨
    (∃ ts sid rest, s.inbox = .realtime ts sid :: rest ∧ s.synced = true ∧ s.SyncRegsSame t) ∨
    (∃ b now rest, s.inbox = .rxbyte b now :: rest ∧ s.st = .readTrail ∧
      (s.verifyEn = true → b = 0 ∨ b = s.cks) ∧ IsSyncWithWord s.pay ∧ s.TableSame t)

/-- Once synced, the clock converter stays synced until RESET. Formalises R28. -/
def Obligations.SyncedIsClearedOnlyByReset : Prop :=
  (∀ s t : State, step s = .next t → s.synced = true → t.synced = true ∨ ∃ rest, s.inbox = .reset :: rest) ∧
  (∀ (s : State) (ts : Word) (now : Rat), ∃ t, exec (.clockSync ts now) s = .next t ∧ t.synced = true) ∧
  (∀ s t : State, step s = .next t → s.synced = false → t.synced = true →
    ∃ b now rest, s.inbox = .rxbyte b now :: rest ∧ IsSyncWithWord s.pay) ∧
  State.reset.synced = false

/-- lastSeq is the sequence byte of the last control packet output and nothing else changes it. Formalises R185. -/
def Obligations.LastSeqFollowsTheControlPackets : Prop :=
  ∀ s t : State, step s = .next t → (∀ rest, s.inbox ≠ .reset :: rest) →
    (∀ id seq words, .ctrl id seq words ∈ newOutputs s t → t.lastSeq = seq) ∧
    ((∀ id seq words, .ctrl id seq words ∉ newOutputs s t) → t.lastSeq = s.lastSeq)

/-- The host's clock reading of an RXBYTE step matters only when the step performs a SYNC. Formalises R39. -/
def Obligations.HostTimeIsReadOnlyBySync : Prop :=
  (∀ (s : State) (b : Byte) (now now' : Rat), ¬(s.st = .readTrail ∧ IsSyncWithWord s.pay) →
    exec (.rxbyte b now) s = exec (.rxbyte b now') s) ∧
  (∀ (s : State) (b : Byte) (now now' : Rat), s.verifyEn = true → b ≠ 0 → b ≠ s.cks →
    exec (.rxbyte b now) s = exec (.rxbyte b now') s)

/-- The receive side does not read txSeq, and SEND reads nothing of the receive side. Rests on 20_memory.md R78,
10_state.md R36, 00_scope.md R5. -/
def Obligations.TransmitAndReceiveShareNoState : Prop :=
  (∀ (s t : State) (q b : Byte) (now : Rat), exec (.rxbyte b now) s = .next t →
    exec (.rxbyte b now) { s with txSeq := q } = .next { t with txSeq := q }) ∧
  (∀ (s t : State) (q : Byte) (ts : Word) (sid : StreamId), exec (.realtime ts sid) s = .next t →
    exec (.realtime ts sid) { s with txSeq := q } = .next { t with txSeq := q }) ∧
  (∀ (s t : State) (q : Byte) (ts : Word) (now : Rat), exec (.clockSync ts now) s = .next t →
    exec (.clockSync ts now) { s with txSeq := q } = .next { t with txSeq := q }) ∧
  (∀ (s s' t t' : State) (m : MsgRef) (value : Option Word), s.txSeq = s'.txSeq → s.par = s'.par →
    exec (.send m value) s = .next t → exec (.send m value) s' = .next t' →
      t'.txSeq = t.txSeq ∧ t'.result = t.result ∧ newOutputs s' t' = newOutputs s t)

/-- The ten events have the codes and levels of the event table, all codes distinct. Rests on 60_exceptions.md R261. -/
def Obligations.EventsHaveTheirCodesAndLevels : Prop :=
  Ev.code .emptyPayload = 0x01 ∧ (∀ a b n, Ev.code (.badChecksum a b n) = 0x02) ∧
  (∀ a, Ev.code (.shortControl a) = 0x03) ∧ (∀ a b, Ev.code (.badControlId a b) = 0x04) ∧
  Ev.code .syncNoWord = 0x05 ∧ (∀ n, Ev.code (.syncOutOfWindow n) = 0x10) ∧
  (∀ d a, Ev.code (.driftCorrected d a) = 0x11) ∧
  (∀ a b c d e, Ev.code (.timeRegression a b c d e) = 0x12) ∧ (∀ a b, Ev.code (.notSynced a b) = 0x13) ∧
  (∀ m, Ev.code (.unknownMessageName m) = 0x20) ∧
  (∀ e : Ev, e.level = .error ↔ e.code ∈ ([0x04, 0x11, 0x13, 0x20] : List Byte))
end

