-- ==== Sys2Proof/Laws/State.lean ====
section
/-! SUPPORT. One lemma per field per state update, true by rfl, so that no later proof unfolds a record update. -/

namespace Sys2Proof.Machine

/-! ### `output` -/

@[simp] theorem State.output_st (o : Output) (s : State) : (s.output o).st = s.st := rfl
@[simp] theorem State.output_esc (o : Output) (s : State) : (s.output o).esc = s.esc := rfl
@[simp] theorem State.output_cks (o : Output) (s : State) : (s.output o).cks = s.cks := rfl
@[simp] theorem State.output_pay (o : Output) (s : State) : (s.output o).pay = s.pay := rfl
@[simp] theorem State.output_raw (o : Output) (s : State) : (s.output o).raw = s.raw := rfl
@[simp] theorem State.output_verifyEn (o : Output) (s : State) : (s.output o).verifyEn = s.verifyEn := rfl
@[simp] theorem State.output_lastSeq (o : Output) (s : State) : (s.output o).lastSeq = s.lastSeq := rfl
@[simp] theorem State.output_synced (o : Output) (s : State) : (s.output o).synced = s.synced := rfl
@[simp] theorem State.output_tickAcc (o : Output) (s : State) : (s.output o).tickAcc = s.tickAcc := rfl
@[simp] theorem State.output_lastSyncTs (o : Output) (s : State) : (s.output o).lastSyncTs = s.lastSyncTs := rfl
@[simp] theorem State.output_firstSyncWall (o : Output) (s : State) :
    (s.output o).firstSyncWall = s.firstSyncWall := rfl
@[simp] theorem State.output_lastRealTime (o : Output) (s : State) : (s.output o).lastRealTime = s.lastRealTime := rfl
@[simp] theorem State.output_lastDevTs (o : Output) (s : State) : (s.output o).lastDevTs = s.lastDevTs := rfl
@[simp] theorem State.output_txSeq (o : Output) (s : State) : (s.output o).txSeq = s.txSeq := rfl
@[simp] theorem State.output_par (o : Output) (s : State) : (s.output o).par = s.par := rfl
@[simp] theorem State.output_inbox (o : Output) (s : State) : (s.output o).inbox = s.inbox := rfl
@[simp] theorem State.output_outs (o : Output) (s : State) : (s.output o).outs = s.outs ++ [o] := rfl
@[simp] theorem State.output_result (o : Output) (s : State) : (s.output o).result = s.result := rfl

/-! ### `emit` -/

@[simp] theorem State.emit_st (e : Ev) (s : State) : (s.emit e).st = s.st := rfl
@[simp] theorem State.emit_esc (e : Ev) (s : State) : (s.emit e).esc = s.esc := rfl
@[simp] theorem State.emit_cks (e : Ev) (s : State) : (s.emit e).cks = s.cks := rfl
@[simp] theorem State.emit_pay (e : Ev) (s : State) : (s.emit e).pay = s.pay := rfl
@[simp] theorem State.emit_raw (e : Ev) (s : State) : (s.emit e).raw = s.raw := rfl
@[simp] theorem State.emit_verifyEn (e : Ev) (s : State) : (s.emit e).verifyEn = s.verifyEn := rfl
@[simp] theorem State.emit_lastSeq (e : Ev) (s : State) : (s.emit e).lastSeq = s.lastSeq := rfl
@[simp] theorem State.emit_synced (e : Ev) (s : State) : (s.emit e).synced = s.synced := rfl
@[simp] theorem State.emit_tickAcc (e : Ev) (s : State) : (s.emit e).tickAcc = s.tickAcc := rfl
@[simp] theorem State.emit_lastSyncTs (e : Ev) (s : State) : (s.emit e).lastSyncTs = s.lastSyncTs := rfl
@[simp] theorem State.emit_firstSyncWall (e : Ev) (s : State) : (s.emit e).firstSyncWall = s.firstSyncWall := rfl
@[simp] theorem State.emit_lastRealTime (e : Ev) (s : State) : (s.emit e).lastRealTime = s.lastRealTime := rfl
@[simp] theorem State.emit_lastDevTs (e : Ev) (s : State) : (s.emit e).lastDevTs = s.lastDevTs := rfl
@[simp] theorem State.emit_txSeq (e : Ev) (s : State) : (s.emit e).txSeq = s.txSeq := rfl
@[simp] theorem State.emit_par (e : Ev) (s : State) : (s.emit e).par = s.par := rfl
@[simp] theorem State.emit_inbox (e : Ev) (s : State) : (s.emit e).inbox = s.inbox := rfl
@[simp] theorem State.emit_outs (e : Ev) (s : State) : (s.emit e).outs = s.outs ++ [.ev e] := rfl
@[simp] theorem State.emit_result (e : Ev) (s : State) : (s.emit e).result = s.result := rfl

/-! ### `withResult` -/

@[simp] theorem State.withResult_st (r : Result) (s : State) : (s.withResult r).st = s.st := rfl
@[simp] theorem State.withResult_esc (r : Result) (s : State) : (s.withResult r).esc = s.esc := rfl
@[simp] theorem State.withResult_cks (r : Result) (s : State) : (s.withResult r).cks = s.cks := rfl
@[simp] theorem State.withResult_pay (r : Result) (s : State) : (s.withResult r).pay = s.pay := rfl
@[simp] theorem State.withResult_raw (r : Result) (s : State) : (s.withResult r).raw = s.raw := rfl
@[simp] theorem State.withResult_verifyEn (r : Result) (s : State) : (s.withResult r).verifyEn = s.verifyEn := rfl
@[simp] theorem State.withResult_lastSeq (r : Result) (s : State) : (s.withResult r).lastSeq = s.lastSeq := rfl
@[simp] theorem State.withResult_synced (r : Result) (s : State) : (s.withResult r).synced = s.synced := rfl
@[simp] theorem State.withResult_tickAcc (r : Result) (s : State) : (s.withResult r).tickAcc = s.tickAcc := rfl
@[simp] theorem State.withResult_lastSyncTs (r : Result) (s : State) :
    (s.withResult r).lastSyncTs = s.lastSyncTs := rfl
@[simp] theorem State.withResult_firstSyncWall (r : Result) (s : State) :
    (s.withResult r).firstSyncWall = s.firstSyncWall := rfl
@[simp] theorem State.withResult_lastRealTime (r : Result) (s : State) :
    (s.withResult r).lastRealTime = s.lastRealTime := rfl
@[simp] theorem State.withResult_lastDevTs (r : Result) (s : State) : (s.withResult r).lastDevTs = s.lastDevTs := rfl
@[simp] theorem State.withResult_txSeq (r : Result) (s : State) : (s.withResult r).txSeq = s.txSeq := rfl
@[simp] theorem State.withResult_par (r : Result) (s : State) : (s.withResult r).par = s.par := rfl
@[simp] theorem State.withResult_inbox (r : Result) (s : State) : (s.withResult r).inbox = s.inbox := rfl
@[simp] theorem State.withResult_outs (r : Result) (s : State) : (s.withResult r).outs = s.outs := rfl
@[simp] theorem State.withResult_result (r : Result) (s : State) : (s.withResult r).result = r := rfl

/-! ### `advanceSeq` -/

@[simp] theorem State.advanceSeq_st (s : State) : (s.advanceSeq).st = s.st := rfl
@[simp] theorem State.advanceSeq_esc (s : State) : (s.advanceSeq).esc = s.esc := rfl
@[simp] theorem State.advanceSeq_cks (s : State) : (s.advanceSeq).cks = s.cks := rfl
@[simp] theorem State.advanceSeq_pay (s : State) : (s.advanceSeq).pay = s.pay := rfl
@[simp] theorem State.advanceSeq_raw (s : State) : (s.advanceSeq).raw = s.raw := rfl
@[simp] theorem State.advanceSeq_verifyEn (s : State) : (s.advanceSeq).verifyEn = s.verifyEn := rfl
@[simp] theorem State.advanceSeq_lastSeq (s : State) : (s.advanceSeq).lastSeq = s.lastSeq := rfl
@[simp] theorem State.advanceSeq_synced (s : State) : (s.advanceSeq).synced = s.synced := rfl
@[simp] theorem State.advanceSeq_tickAcc (s : State) : (s.advanceSeq).tickAcc = s.tickAcc := rfl
@[simp] theorem State.advanceSeq_lastSyncTs (s : State) : (s.advanceSeq).lastSyncTs = s.lastSyncTs := rfl
@[simp] theorem State.advanceSeq_firstSyncWall (s : State) : (s.advanceSeq).firstSyncWall = s.firstSyncWall := rfl
@[simp] theorem State.advanceSeq_lastRealTime (s : State) : (s.advanceSeq).lastRealTime = s.lastRealTime := rfl
@[simp] theorem State.advanceSeq_lastDevTs (s : State) : (s.advanceSeq).lastDevTs = s.lastDevTs := rfl
@[simp] theorem State.advanceSeq_txSeq (s : State) : (s.advanceSeq).txSeq = nextSeq s.txSeq := rfl
@[simp] theorem State.advanceSeq_par (s : State) : (s.advanceSeq).par = s.par := rfl
@[simp] theorem State.advanceSeq_inbox (s : State) : (s.advanceSeq).inbox = s.inbox := rfl
@[simp] theorem State.advanceSeq_outs (s : State) : (s.advanceSeq).outs = s.outs := rfl
@[simp] theorem State.advanceSeq_result (s : State) : (s.advanceSeq).result = s.result := rfl

/-! ### `sendFrame` -/

@[simp] theorem State.sendFrame_st (id : MsgId) (v : Option Word) (s : State) : (s.sendFrame id v).st = s.st := rfl
@[simp] theorem State.sendFrame_esc (id : MsgId) (v : Option Word) (s : State) : (s.sendFrame id v).esc = s.esc := rfl
@[simp] theorem State.sendFrame_cks (id : MsgId) (v : Option Word) (s : State) : (s.sendFrame id v).cks = s.cks := rfl
@[simp] theorem State.sendFrame_pay (id : MsgId) (v : Option Word) (s : State) : (s.sendFrame id v).pay = s.pay := rfl
@[simp] theorem State.sendFrame_raw (id : MsgId) (v : Option Word) (s : State) : (s.sendFrame id v).raw = s.raw := rfl
@[simp] theorem State.sendFrame_verifyEn (id : MsgId) (v : Option Word) (s : State) :
    (s.sendFrame id v).verifyEn = s.verifyEn := rfl
@[simp] theorem State.sendFrame_lastSeq (id : MsgId) (v : Option Word) (s : State) :
    (s.sendFrame id v).lastSeq = s.lastSeq := rfl
@[simp] theorem State.sendFrame_synced (id : MsgId) (v : Option Word) (s : State) :
    (s.sendFrame id v).synced = s.synced := rfl
@[simp] theorem State.sendFrame_tickAcc (id : MsgId) (v : Option Word) (s : State) :
    (s.sendFrame id v).tickAcc = s.tickAcc := rfl
@[simp] theorem State.sendFrame_lastSyncTs (id : MsgId) (v : Option Word) (s : State) :
    (s.sendFrame id v).lastSyncTs = s.lastSyncTs := rfl
@[simp] theorem State.sendFrame_firstSyncWall (id : MsgId) (v : Option Word) (s : State) :
    (s.sendFrame id v).firstSyncWall = s.firstSyncWall := rfl
@[simp] theorem State.sendFrame_lastRealTime (id : MsgId) (v : Option Word) (s : State) :
    (s.sendFrame id v).lastRealTime = s.lastRealTime := rfl
@[simp] theorem State.sendFrame_lastDevTs (id : MsgId) (v : Option Word) (s : State) :
    (s.sendFrame id v).lastDevTs = s.lastDevTs := rfl
@[simp] theorem State.sendFrame_txSeq (id : MsgId) (v : Option Word) (s : State) :
    (s.sendFrame id v).txSeq = nextSeq s.txSeq := rfl
@[simp] theorem State.sendFrame_par (id : MsgId) (v : Option Word) (s : State) : (s.sendFrame id v).par = s.par := rfl
@[simp] theorem State.sendFrame_inbox (id : MsgId) (v : Option Word) (s : State) :
    (s.sendFrame id v).inbox = s.inbox := rfl
@[simp] theorem State.sendFrame_outs (id : MsgId) (v : Option Word) (s : State) :
    (s.sendFrame id v).outs = s.outs ++ [.tx (buildFrame s.par (BitVec.ofNat 8 id.val) (nextSeq s.txSeq) v.toList)] := rfl
@[simp] theorem State.sendFrame_result (id : MsgId) (v : Option Word) (s : State) :
    (s.sendFrame id v).result = s.result := rfl

/-! ### `firstSync` -/

@[simp] theorem State.firstSync_st (t : Word) (now : Rat) (s : State) : (s.firstSync t now).st = s.st := rfl
@[simp] theorem State.firstSync_esc (t : Word) (now : Rat) (s : State) : (s.firstSync t now).esc = s.esc := rfl
@[simp] theorem State.firstSync_cks (t : Word) (now : Rat) (s : State) : (s.firstSync t now).cks = s.cks := rfl
@[simp] theorem State.firstSync_pay (t : Word) (now : Rat) (s : State) : (s.firstSync t now).pay = s.pay := rfl
@[simp] theorem State.firstSync_raw (t : Word) (now : Rat) (s : State) : (s.firstSync t now).raw = s.raw := rfl
@[simp] theorem State.firstSync_verifyEn (t : Word) (now : Rat) (s : State) :
    (s.firstSync t now).verifyEn = s.verifyEn := rfl
@[simp] theorem State.firstSync_lastSeq (t : Word) (now : Rat) (s : State) :
    (s.firstSync t now).lastSeq = s.lastSeq := rfl
@[simp] theorem State.firstSync_synced (t : Word) (now : Rat) (s : State) : (s.firstSync t now).synced = true := rfl
@[simp] theorem State.firstSync_tickAcc (t : Word) (now : Rat) (s : State) : (s.firstSync t now).tickAcc = 0 := rfl
@[simp] theorem State.firstSync_lastSyncTs (t : Word) (now : Rat) (s : State) :
    (s.firstSync t now).lastSyncTs = t := rfl
@[simp] theorem State.firstSync_firstSyncWall (t : Word) (now : Rat) (s : State) :
    (s.firstSync t now).firstSyncWall = now := rfl
@[simp] theorem State.firstSync_lastRealTime (t : Word) (now : Rat) (s : State) :
    (s.firstSync t now).lastRealTime = s.lastRealTime := rfl
@[simp] theorem State.firstSync_lastDevTs (t : Word) (now : Rat) (s : State) :
    (s.firstSync t now).lastDevTs = s.lastDevTs := rfl
@[simp] theorem State.firstSync_txSeq (t : Word) (now : Rat) (s : State) : (s.firstSync t now).txSeq = s.txSeq := rfl
@[simp] theorem State.firstSync_par (t : Word) (now : Rat) (s : State) : (s.firstSync t now).par = s.par := rfl
@[simp] theorem State.firstSync_inbox (t : Word) (now : Rat) (s : State) : (s.firstSync t now).inbox = s.inbox := rfl
@[simp] theorem State.firstSync_outs (t : Word) (now : Rat) (s : State) : (s.firstSync t now).outs = s.outs := rfl
@[simp] theorem State.firstSync_result (t : Word) (now : Rat) (s : State) :
    (s.firstSync t now).result = s.result := rfl

/-! ### `accumulate` -/

@[simp] theorem State.accumulate_st (t : Word) (n : Nat) (s : State) : (s.accumulate t n).st = s.st := rfl
@[simp] theorem State.accumulate_esc (t : Word) (n : Nat) (s : State) : (s.accumulate t n).esc = s.esc := rfl
@[simp] theorem State.accumulate_cks (t : Word) (n : Nat) (s : State) : (s.accumulate t n).cks = s.cks := rfl
@[simp] theorem State.accumulate_pay (t : Word) (n : Nat) (s : State) : (s.accumulate t n).pay = s.pay := rfl
@[simp] theorem State.accumulate_raw (t : Word) (n : Nat) (s : State) : (s.accumulate t n).raw = s.raw := rfl
@[simp] theorem State.accumulate_verifyEn (t : Word) (n : Nat) (s : State) :
    (s.accumulate t n).verifyEn = s.verifyEn := rfl
@[simp] theorem State.accumulate_lastSeq (t : Word) (n : Nat) (s : State) :
    (s.accumulate t n).lastSeq = s.lastSeq := rfl
@[simp] theorem State.accumulate_synced (t : Word) (n : Nat) (s : State) : (s.accumulate t n).synced = s.synced := rfl
@[simp] theorem State.accumulate_tickAcc (t : Word) (n : Nat) (s : State) :
    (s.accumulate t n).tickAcc = BitVec.ofNat 64 (s.tickAcc.toNat + n) := rfl
@[simp] theorem State.accumulate_lastSyncTs (t : Word) (n : Nat) (s : State) :
    (s.accumulate t n).lastSyncTs = t := rfl
@[simp] theorem State.accumulate_firstSyncWall (t : Word) (n : Nat) (s : State) :
    (s.accumulate t n).firstSyncWall = s.firstSyncWall := rfl
@[simp] theorem State.accumulate_lastRealTime (t : Word) (n : Nat) (s : State) :
    (s.accumulate t n).lastRealTime = s.lastRealTime := rfl
@[simp] theorem State.accumulate_lastDevTs (t : Word) (n : Nat) (s : State) :
    (s.accumulate t n).lastDevTs = s.lastDevTs := rfl
@[simp] theorem State.accumulate_txSeq (t : Word) (n : Nat) (s : State) : (s.accumulate t n).txSeq = s.txSeq := rfl
@[simp] theorem State.accumulate_par (t : Word) (n : Nat) (s : State) : (s.accumulate t n).par = s.par := rfl
@[simp] theorem State.accumulate_inbox (t : Word) (n : Nat) (s : State) : (s.accumulate t n).inbox = s.inbox := rfl
@[simp] theorem State.accumulate_outs (t : Word) (n : Nat) (s : State) : (s.accumulate t n).outs = s.outs := rfl
@[simp] theorem State.accumulate_result (t : Word) (n : Nat) (s : State) : (s.accumulate t n).result = s.result := rfl

/-! ### `adjust` -/

@[simp] theorem State.adjust_st (adj : Int) (s : State) : (s.adjust adj).st = s.st := rfl
@[simp] theorem State.adjust_esc (adj : Int) (s : State) : (s.adjust adj).esc = s.esc := rfl
@[simp] theorem State.adjust_cks (adj : Int) (s : State) : (s.adjust adj).cks = s.cks := rfl
@[simp] theorem State.adjust_pay (adj : Int) (s : State) : (s.adjust adj).pay = s.pay := rfl
@[simp] theorem State.adjust_raw (adj : Int) (s : State) : (s.adjust adj).raw = s.raw := rfl
@[simp] theorem State.adjust_verifyEn (adj : Int) (s : State) : (s.adjust adj).verifyEn = s.verifyEn := rfl
@[simp] theorem State.adjust_lastSeq (adj : Int) (s : State) : (s.adjust adj).lastSeq = s.lastSeq := rfl
@[simp] theorem State.adjust_synced (adj : Int) (s : State) : (s.adjust adj).synced = s.synced := rfl
@[simp] theorem State.adjust_tickAcc (adj : Int) (s : State) :
    (s.adjust adj).tickAcc = BitVec.ofNat 64 (max 0 ((s.tickAcc.toNat : Int) - adj)).toNat := rfl
@[simp] theorem State.adjust_lastSyncTs (adj : Int) (s : State) : (s.adjust adj).lastSyncTs = s.lastSyncTs := rfl
@[simp] theorem State.adjust_firstSyncWall (adj : Int) (s : State) :
    (s.adjust adj).firstSyncWall = s.firstSyncWall := rfl
@[simp] theorem State.adjust_lastRealTime (adj : Int) (s : State) :
    (s.adjust adj).lastRealTime = s.lastRealTime := rfl
@[simp] theorem State.adjust_lastDevTs (adj : Int) (s : State) : (s.adjust adj).lastDevTs = s.lastDevTs := rfl
@[simp] theorem State.adjust_txSeq (adj : Int) (s : State) : (s.adjust adj).txSeq = s.txSeq := rfl
@[simp] theorem State.adjust_par (adj : Int) (s : State) : (s.adjust adj).par = s.par := rfl
@[simp] theorem State.adjust_inbox (adj : Int) (s : State) : (s.adjust adj).inbox = s.inbox := rfl
@[simp] theorem State.adjust_outs (adj : Int) (s : State) : (s.adjust adj).outs = s.outs := rfl
@[simp] theorem State.adjust_result (adj : Int) (s : State) : (s.adjust adj).result = s.result := rfl

/-! ### `recordTime` -/

@[simp] theorem State.recordTime_st (sid : StreamId) (x : Rat) (ts : Word) (s : State) :
    (s.recordTime sid x ts).st = s.st := rfl
@[simp] theorem State.recordTime_esc (sid : StreamId) (x : Rat) (ts : Word) (s : State) :
    (s.recordTime sid x ts).esc = s.esc := rfl
@[simp] theorem State.recordTime_cks (sid : StreamId) (x : Rat) (ts : Word) (s : State) :
    (s.recordTime sid x ts).cks = s.cks := rfl
@[simp] theorem State.recordTime_pay (sid : StreamId) (x : Rat) (ts : Word) (s : State) :
    (s.recordTime sid x ts).pay = s.pay := rfl
@[simp] theorem State.recordTime_raw (sid : StreamId) (x : Rat) (ts : Word) (s : State) :
    (s.recordTime sid x ts).raw = s.raw := rfl
@[simp] theorem State.recordTime_verifyEn (sid : StreamId) (x : Rat) (ts : Word) (s : State) :
    (s.recordTime sid x ts).verifyEn = s.verifyEn := rfl
@[simp] theorem State.recordTime_lastSeq (sid : StreamId) (x : Rat) (ts : Word) (s : State) :
    (s.recordTime sid x ts).lastSeq = s.lastSeq := rfl
@[simp] theorem State.recordTime_synced (sid : StreamId) (x : Rat) (ts : Word) (s : State) :
    (s.recordTime sid x ts).synced = s.synced := rfl
@[simp] theorem State.recordTime_tickAcc (sid : StreamId) (x : Rat) (ts : Word) (s : State) :
    (s.recordTime sid x ts).tickAcc = s.tickAcc := rfl
@[simp] theorem State.recordTime_lastSyncTs (sid : StreamId) (x : Rat) (ts : Word) (s : State) :
    (s.recordTime sid x ts).lastSyncTs = s.lastSyncTs := rfl
@[simp] theorem State.recordTime_firstSyncWall (sid : StreamId) (x : Rat) (ts : Word) (s : State) :
    (s.recordTime sid x ts).firstSyncWall = s.firstSyncWall := rfl
@[simp] theorem State.recordTime_lastRealTime (sid : StreamId) (x : Rat) (ts : Word) (s : State) :
    (s.recordTime sid x ts).lastRealTime = s.lastRealTime.set sid.toNat x (by omega) := rfl
@[simp] theorem State.recordTime_lastDevTs (sid : StreamId) (x : Rat) (ts : Word) (s : State) :
    (s.recordTime sid x ts).lastDevTs = s.lastDevTs.set sid.toNat ts (by omega) := rfl
@[simp] theorem State.recordTime_txSeq (sid : StreamId) (x : Rat) (ts : Word) (s : State) :
    (s.recordTime sid x ts).txSeq = s.txSeq := rfl
@[simp] theorem State.recordTime_par (sid : StreamId) (x : Rat) (ts : Word) (s : State) :
    (s.recordTime sid x ts).par = s.par := rfl
@[simp] theorem State.recordTime_inbox (sid : StreamId) (x : Rat) (ts : Word) (s : State) :
    (s.recordTime sid x ts).inbox = s.inbox := rfl
@[simp] theorem State.recordTime_outs (sid : StreamId) (x : Rat) (ts : Word) (s : State) :
    (s.recordTime sid x ts).outs = s.outs := rfl
@[simp] theorem State.recordTime_result (sid : StreamId) (x : Rat) (ts : Word) (s : State) :
    (s.recordTime sid x ts).result = s.result := rfl

/-! ### `deliver` -/

@[simp] theorem State.deliver_st (id : MsgId) (seq : Byte) (ws : List Word) (s : State) :
    (s.deliver id seq ws).st = s.st := rfl
@[simp] theorem State.deliver_esc (id : MsgId) (seq : Byte) (ws : List Word) (s : State) :
    (s.deliver id seq ws).esc = s.esc := rfl
@[simp] theorem State.deliver_cks (id : MsgId) (seq : Byte) (ws : List Word) (s : State) :
    (s.deliver id seq ws).cks = s.cks := rfl
@[simp] theorem State.deliver_pay (id : MsgId) (seq : Byte) (ws : List Word) (s : State) :
    (s.deliver id seq ws).pay = s.pay := rfl
@[simp] theorem State.deliver_raw (id : MsgId) (seq : Byte) (ws : List Word) (s : State) :
    (s.deliver id seq ws).raw = s.raw := rfl
@[simp] theorem State.deliver_verifyEn (id : MsgId) (seq : Byte) (ws : List Word) (s : State) :
    (s.deliver id seq ws).verifyEn = s.verifyEn := rfl
@[simp] theorem State.deliver_lastSeq (id : MsgId) (seq : Byte) (ws : List Word) (s : State) :
    (s.deliver id seq ws).lastSeq = seq := rfl
@[simp] theorem State.deliver_synced (id : MsgId) (seq : Byte) (ws : List Word) (s : State) :
    (s.deliver id seq ws).synced = s.synced := rfl
@[simp] theorem State.deliver_tickAcc (id : MsgId) (seq : Byte) (ws : List Word) (s : State) :
    (s.deliver id seq ws).tickAcc = s.tickAcc := rfl
@[simp] theorem State.deliver_lastSyncTs (id : MsgId) (seq : Byte) (ws : List Word) (s : State) :
    (s.deliver id seq ws).lastSyncTs = s.lastSyncTs := rfl
@[simp] theorem State.deliver_firstSyncWall (id : MsgId) (seq : Byte) (ws : List Word) (s : State) :
    (s.deliver id seq ws).firstSyncWall = s.firstSyncWall := rfl
@[simp] theorem State.deliver_lastRealTime (id : MsgId) (seq : Byte) (ws : List Word) (s : State) :
    (s.deliver id seq ws).lastRealTime = s.lastRealTime := rfl
@[simp] theorem State.deliver_lastDevTs (id : MsgId) (seq : Byte) (ws : List Word) (s : State) :
    (s.deliver id seq ws).lastDevTs = s.lastDevTs := rfl
@[simp] theorem State.deliver_txSeq (id : MsgId) (seq : Byte) (ws : List Word) (s : State) :
    (s.deliver id seq ws).txSeq = s.txSeq := rfl
@[simp] theorem State.deliver_par (id : MsgId) (seq : Byte) (ws : List Word) (s : State) :
    (s.deliver id seq ws).par = s.par := rfl
@[simp] theorem State.deliver_inbox (id : MsgId) (seq : Byte) (ws : List Word) (s : State) :
    (s.deliver id seq ws).inbox = s.inbox := rfl
@[simp] theorem State.deliver_outs (id : MsgId) (seq : Byte) (ws : List Word) (s : State) :
    (s.deliver id seq ws).outs = s.outs ++ [.ctrl id seq ws] := rfl
@[simp] theorem State.deliver_result (id : MsgId) (seq : Byte) (ws : List Word) (s : State) :
    (s.deliver id seq ws).result = s.result := rfl

/-! ### `badControl` -/

@[simp] theorem State.badControl_st (id seq : Byte) (s : State) : (s.badControl id seq).st = s.st := rfl
@[simp] theorem State.badControl_esc (id seq : Byte) (s : State) : (s.badControl id seq).esc = s.esc := rfl
@[simp] theorem State.badControl_cks (id seq : Byte) (s : State) : (s.badControl id seq).cks = s.cks := rfl
@[simp] theorem State.badControl_pay (id seq : Byte) (s : State) : (s.badControl id seq).pay = s.pay := rfl
@[simp] theorem State.badControl_raw (id seq : Byte) (s : State) : (s.badControl id seq).raw = s.raw := rfl
@[simp] theorem State.badControl_verifyEn (id seq : Byte) (s : State) :
    (s.badControl id seq).verifyEn = s.verifyEn := rfl
@[simp] theorem State.badControl_lastSeq (id seq : Byte) (s : State) :
    (s.badControl id seq).lastSeq = s.lastSeq := rfl
@[simp] theorem State.badControl_synced (id seq : Byte) (s : State) : (s.badControl id seq).synced = s.synced := rfl
@[simp] theorem State.badControl_tickAcc (id seq : Byte) (s : State) :
    (s.badControl id seq).tickAcc = s.tickAcc := rfl
@[simp] theorem State.badControl_lastSyncTs (id seq : Byte) (s : State) :
    (s.badControl id seq).lastSyncTs = s.lastSyncTs := rfl
@[simp] theorem State.badControl_firstSyncWall (id seq : Byte) (s : State) :
    (s.badControl id seq).firstSyncWall = s.firstSyncWall := rfl
@[simp] theorem State.badControl_lastRealTime (id seq : Byte) (s : State) :
    (s.badControl id seq).lastRealTime = s.lastRealTime := rfl
@[simp] theorem State.badControl_lastDevTs (id seq : Byte) (s : State) :
    (s.badControl id seq).lastDevTs = s.lastDevTs := rfl
@[simp] theorem State.badControl_txSeq (id seq : Byte) (s : State) : (s.badControl id seq).txSeq = s.txSeq := rfl
@[simp] theorem State.badControl_par (id seq : Byte) (s : State) : (s.badControl id seq).par = s.par := rfl
@[simp] theorem State.badControl_inbox (id seq : Byte) (s : State) : (s.badControl id seq).inbox = s.inbox := rfl
@[simp] theorem State.badControl_outs (id seq : Byte) (s : State) :
    (s.badControl id seq).outs = s.outs ++ [.ev (.badControlId id seq)] := rfl
@[simp] theorem State.badControl_result (id seq : Byte) (s : State) : (s.badControl id seq).result = s.result := rfl

/-! ### `streamPacket` -/

@[simp] theorem State.streamPacket_st (sid : StreamId) (nib : BitVec 4) (rest : List Byte) (s : State) :
    (s.streamPacket sid nib rest).st = s.st := rfl
@[simp] theorem State.streamPacket_esc (sid : StreamId) (nib : BitVec 4) (rest : List Byte) (s : State) :
    (s.streamPacket sid nib rest).esc = s.esc := rfl
@[simp] theorem State.streamPacket_cks (sid : StreamId) (nib : BitVec 4) (rest : List Byte) (s : State) :
    (s.streamPacket sid nib rest).cks = s.cks := rfl
@[simp] theorem State.streamPacket_pay (sid : StreamId) (nib : BitVec 4) (rest : List Byte) (s : State) :
    (s.streamPacket sid nib rest).pay = s.pay := rfl
@[simp] theorem State.streamPacket_raw (sid : StreamId) (nib : BitVec 4) (rest : List Byte) (s : State) :
    (s.streamPacket sid nib rest).raw = s.raw := rfl
@[simp] theorem State.streamPacket_verifyEn (sid : StreamId) (nib : BitVec 4) (rest : List Byte) (s : State) :
    (s.streamPacket sid nib rest).verifyEn = s.verifyEn := rfl
@[simp] theorem State.streamPacket_lastSeq (sid : StreamId) (nib : BitVec 4) (rest : List Byte) (s : State) :
    (s.streamPacket sid nib rest).lastSeq = s.lastSeq := rfl
@[simp] theorem State.streamPacket_synced (sid : StreamId) (nib : BitVec 4) (rest : List Byte) (s : State) :
    (s.streamPacket sid nib rest).synced = s.synced := rfl
@[simp] theorem State.streamPacket_tickAcc (sid : StreamId) (nib : BitVec 4) (rest : List Byte) (s : State) :
    (s.streamPacket sid nib rest).tickAcc = s.tickAcc := rfl
@[simp] theorem State.streamPacket_lastSyncTs (sid : StreamId) (nib : BitVec 4) (rest : List Byte) (s : State) :
    (s.streamPacket sid nib rest).lastSyncTs = s.lastSyncTs := rfl
@[simp] theorem State.streamPacket_firstSyncWall (sid : StreamId) (nib : BitVec 4) (rest : List Byte) (s : State) :
    (s.streamPacket sid nib rest).firstSyncWall = s.firstSyncWall := rfl
@[simp] theorem State.streamPacket_lastRealTime (sid : StreamId) (nib : BitVec 4) (rest : List Byte) (s : State) :
    (s.streamPacket sid nib rest).lastRealTime = s.lastRealTime := rfl
@[simp] theorem State.streamPacket_lastDevTs (sid : StreamId) (nib : BitVec 4) (rest : List Byte) (s : State) :
    (s.streamPacket sid nib rest).lastDevTs = s.lastDevTs := rfl
@[simp] theorem State.streamPacket_txSeq (sid : StreamId) (nib : BitVec 4) (rest : List Byte) (s : State) :
    (s.streamPacket sid nib rest).txSeq = s.txSeq := rfl
@[simp] theorem State.streamPacket_par (sid : StreamId) (nib : BitVec 4) (rest : List Byte) (s : State) :
    (s.streamPacket sid nib rest).par = s.par := rfl
@[simp] theorem State.streamPacket_inbox (sid : StreamId) (nib : BitVec 4) (rest : List Byte) (s : State) :
    (s.streamPacket sid nib rest).inbox = s.inbox := rfl
@[simp] theorem State.streamPacket_outs (sid : StreamId) (nib : BitVec 4) (rest : List Byte) (s : State) :
    (s.streamPacket sid nib rest).outs = s.outs ++ [.strm sid (samplesOf (valueStream nib rest))] := rfl
@[simp] theorem State.streamPacket_result (sid : StreamId) (nib : BitVec 4) (rest : List Byte) (s : State) :
    (s.streamPacket sid nib rest).result = s.result := rfl

/-! ### `strm` -/

@[simp] theorem State.strm_st (p : Payload) (s : State) : (s.strm p).st = s.st := rfl
@[simp] theorem State.strm_esc (p : Payload) (s : State) : (s.strm p).esc = s.esc := rfl
@[simp] theorem State.strm_cks (p : Payload) (s : State) : (s.strm p).cks = s.cks := rfl
@[simp] theorem State.strm_pay (p : Payload) (s : State) : (s.strm p).pay = s.pay := rfl
@[simp] theorem State.strm_raw (p : Payload) (s : State) : (s.strm p).raw = s.raw := rfl
@[simp] theorem State.strm_verifyEn (p : Payload) (s : State) : (s.strm p).verifyEn = s.verifyEn := rfl
@[simp] theorem State.strm_lastSeq (p : Payload) (s : State) : (s.strm p).lastSeq = s.lastSeq := rfl
@[simp] theorem State.strm_synced (p : Payload) (s : State) : (s.strm p).synced = s.synced := rfl
@[simp] theorem State.strm_tickAcc (p : Payload) (s : State) : (s.strm p).tickAcc = s.tickAcc := rfl
@[simp] theorem State.strm_lastSyncTs (p : Payload) (s : State) : (s.strm p).lastSyncTs = s.lastSyncTs := rfl
@[simp] theorem State.strm_firstSyncWall (p : Payload) (s : State) : (s.strm p).firstSyncWall = s.firstSyncWall := rfl
@[simp] theorem State.strm_lastRealTime (p : Payload) (s : State) : (s.strm p).lastRealTime = s.lastRealTime := rfl
@[simp] theorem State.strm_lastDevTs (p : Payload) (s : State) : (s.strm p).lastDevTs = s.lastDevTs := rfl
@[simp] theorem State.strm_txSeq (p : Payload) (s : State) : (s.strm p).txSeq = s.txSeq := rfl
@[simp] theorem State.strm_par (p : Payload) (s : State) : (s.strm p).par = s.par := rfl
@[simp] theorem State.strm_inbox (p : Payload) (s : State) : (s.strm p).inbox = s.inbox := rfl
@[simp] theorem State.strm_outs (p : Payload) (s : State) :
    (s.strm p).outs = s.outs ++ [.strm (headerSid p.hdr) (samplesOf (valueStream (headerNibble p.hdr) p.rest))] := rfl
@[simp] theorem State.strm_result (p : Payload) (s : State) : (s.strm p).result = s.result := rfl

/-! ### `openFrame` -/

@[simp] theorem State.openFrame_st (s : State) : (s.openFrame).st = .readLead := rfl
@[simp] theorem State.openFrame_esc (s : State) : (s.openFrame).esc = s.esc := rfl
@[simp] theorem State.openFrame_cks (s : State) : (s.openFrame).cks = s.cks := rfl
@[simp] theorem State.openFrame_pay (s : State) : (s.openFrame).pay = s.pay := rfl
@[simp] theorem State.openFrame_raw (s : State) : (s.openFrame).raw = s.raw := rfl
@[simp] theorem State.openFrame_verifyEn (s : State) : (s.openFrame).verifyEn = s.verifyEn := rfl
@[simp] theorem State.openFrame_lastSeq (s : State) : (s.openFrame).lastSeq = s.lastSeq := rfl
@[simp] theorem State.openFrame_synced (s : State) : (s.openFrame).synced = s.synced := rfl
@[simp] theorem State.openFrame_tickAcc (s : State) : (s.openFrame).tickAcc = s.tickAcc := rfl
@[simp] theorem State.openFrame_lastSyncTs (s : State) : (s.openFrame).lastSyncTs = s.lastSyncTs := rfl
@[simp] theorem State.openFrame_firstSyncWall (s : State) : (s.openFrame).firstSyncWall = s.firstSyncWall := rfl
@[simp] theorem State.openFrame_lastRealTime (s : State) : (s.openFrame).lastRealTime = s.lastRealTime := rfl
@[simp] theorem State.openFrame_lastDevTs (s : State) : (s.openFrame).lastDevTs = s.lastDevTs := rfl
@[simp] theorem State.openFrame_txSeq (s : State) : (s.openFrame).txSeq = s.txSeq := rfl
@[simp] theorem State.openFrame_par (s : State) : (s.openFrame).par = s.par := rfl
@[simp] theorem State.openFrame_inbox (s : State) : (s.openFrame).inbox = s.inbox := rfl
@[simp] theorem State.openFrame_outs (s : State) : (s.openFrame).outs = s.outs := rfl
@[simp] theorem State.openFrame_result (s : State) : (s.openFrame).result = s.result := rfl

/-! ### `startCollect` -/

@[simp] theorem State.startCollect_st (s : State) : (s.startCollect).st = .collecting := rfl
@[simp] theorem State.startCollect_esc (s : State) : (s.startCollect).esc = false := rfl
@[simp] theorem State.startCollect_cks (s : State) : (s.startCollect).cks = cksumInit := rfl
@[simp] theorem State.startCollect_pay (s : State) : (s.startCollect).pay = [] := rfl
@[simp] theorem State.startCollect_raw (s : State) : (s.startCollect).raw = s.raw := rfl
@[simp] theorem State.startCollect_verifyEn (s : State) : (s.startCollect).verifyEn = s.verifyEn := rfl
@[simp] theorem State.startCollect_lastSeq (s : State) : (s.startCollect).lastSeq = s.lastSeq := rfl
@[simp] theorem State.startCollect_synced (s : State) : (s.startCollect).synced = s.synced := rfl
@[simp] theorem State.startCollect_tickAcc (s : State) : (s.startCollect).tickAcc = s.tickAcc := rfl
@[simp] theorem State.startCollect_lastSyncTs (s : State) : (s.startCollect).lastSyncTs = s.lastSyncTs := rfl
@[simp] theorem State.startCollect_firstSyncWall (s : State) : (s.startCollect).firstSyncWall = s.firstSyncWall := rfl
@[simp] theorem State.startCollect_lastRealTime (s : State) : (s.startCollect).lastRealTime = s.lastRealTime := rfl
@[simp] theorem State.startCollect_lastDevTs (s : State) : (s.startCollect).lastDevTs = s.lastDevTs := rfl
@[simp] theorem State.startCollect_txSeq (s : State) : (s.startCollect).txSeq = s.txSeq := rfl
@[simp] theorem State.startCollect_par (s : State) : (s.startCollect).par = s.par := rfl
@[simp] theorem State.startCollect_inbox (s : State) : (s.startCollect).inbox = s.inbox := rfl
@[simp] theorem State.startCollect_outs (s : State) : (s.startCollect).outs = s.outs := rfl
@[simp] theorem State.startCollect_result (s : State) : (s.startCollect).result = s.result := rfl

/-! ### `collectEscaped` -/

@[simp] theorem State.collectEscaped_st (b : Byte) (s : State) : (s.collectEscaped b).st = s.st := rfl
@[simp] theorem State.collectEscaped_esc (b : Byte) (s : State) : (s.collectEscaped b).esc = false := rfl
@[simp] theorem State.collectEscaped_cks (b : Byte) (s : State) : (s.collectEscaped b).cks = ckstep s.cks b := rfl
@[simp] theorem State.collectEscaped_pay (b : Byte) (s : State) : (s.collectEscaped b).pay = s.pay ++ [b] := rfl
@[simp] theorem State.collectEscaped_raw (b : Byte) (s : State) : (s.collectEscaped b).raw = s.raw := rfl
@[simp] theorem State.collectEscaped_verifyEn (b : Byte) (s : State) :
    (s.collectEscaped b).verifyEn = s.verifyEn := rfl
@[simp] theorem State.collectEscaped_lastSeq (b : Byte) (s : State) : (s.collectEscaped b).lastSeq = s.lastSeq := rfl
@[simp] theorem State.collectEscaped_synced (b : Byte) (s : State) : (s.collectEscaped b).synced = s.synced := rfl
@[simp] theorem State.collectEscaped_tickAcc (b : Byte) (s : State) : (s.collectEscaped b).tickAcc = s.tickAcc := rfl
@[simp] theorem State.collectEscaped_lastSyncTs (b : Byte) (s : State) :
    (s.collectEscaped b).lastSyncTs = s.lastSyncTs := rfl
@[simp] theorem State.collectEscaped_firstSyncWall (b : Byte) (s : State) :
    (s.collectEscaped b).firstSyncWall = s.firstSyncWall := rfl
@[simp] theorem State.collectEscaped_lastRealTime (b : Byte) (s : State) :
    (s.collectEscaped b).lastRealTime = s.lastRealTime := rfl
@[simp] theorem State.collectEscaped_lastDevTs (b : Byte) (s : State) :
    (s.collectEscaped b).lastDevTs = s.lastDevTs := rfl
@[simp] theorem State.collectEscaped_txSeq (b : Byte) (s : State) : (s.collectEscaped b).txSeq = s.txSeq := rfl
@[simp] theorem State.collectEscaped_par (b : Byte) (s : State) : (s.collectEscaped b).par = s.par := rfl
@[simp] theorem State.collectEscaped_inbox (b : Byte) (s : State) : (s.collectEscaped b).inbox = s.inbox := rfl
@[simp] theorem State.collectEscaped_outs (b : Byte) (s : State) : (s.collectEscaped b).outs = s.outs := rfl
@[simp] theorem State.collectEscaped_result (b : Byte) (s : State) : (s.collectEscaped b).result = s.result := rfl

/-! ### `collectEsc` -/

@[simp] theorem State.collectEsc_st (b : Byte) (s : State) : (s.collectEsc b).st = s.st := rfl
@[simp] theorem State.collectEsc_esc (b : Byte) (s : State) : (s.collectEsc b).esc = true := rfl
@[simp] theorem State.collectEsc_cks (b : Byte) (s : State) : (s.collectEsc b).cks = ckstep s.cks b := rfl
@[simp] theorem State.collectEsc_pay (b : Byte) (s : State) : (s.collectEsc b).pay = s.pay := rfl
@[simp] theorem State.collectEsc_raw (b : Byte) (s : State) : (s.collectEsc b).raw = s.raw := rfl
@[simp] theorem State.collectEsc_verifyEn (b : Byte) (s : State) : (s.collectEsc b).verifyEn = s.verifyEn := rfl
@[simp] theorem State.collectEsc_lastSeq (b : Byte) (s : State) : (s.collectEsc b).lastSeq = s.lastSeq := rfl
@[simp] theorem State.collectEsc_synced (b : Byte) (s : State) : (s.collectEsc b).synced = s.synced := rfl
@[simp] theorem State.collectEsc_tickAcc (b : Byte) (s : State) : (s.collectEsc b).tickAcc = s.tickAcc := rfl
@[simp] theorem State.collectEsc_lastSyncTs (b : Byte) (s : State) : (s.collectEsc b).lastSyncTs = s.lastSyncTs := rfl
@[simp] theorem State.collectEsc_firstSyncWall (b : Byte) (s : State) :
    (s.collectEsc b).firstSyncWall = s.firstSyncWall := rfl
@[simp] theorem State.collectEsc_lastRealTime (b : Byte) (s : State) :
    (s.collectEsc b).lastRealTime = s.lastRealTime := rfl
@[simp] theorem State.collectEsc_lastDevTs (b : Byte) (s : State) : (s.collectEsc b).lastDevTs = s.lastDevTs := rfl
@[simp] theorem State.collectEsc_txSeq (b : Byte) (s : State) : (s.collectEsc b).txSeq = s.txSeq := rfl
@[simp] theorem State.collectEsc_par (b : Byte) (s : State) : (s.collectEsc b).par = s.par := rfl
@[simp] theorem State.collectEsc_inbox (b : Byte) (s : State) : (s.collectEsc b).inbox = s.inbox := rfl
@[simp] theorem State.collectEsc_outs (b : Byte) (s : State) : (s.collectEsc b).outs = s.outs := rfl
@[simp] theorem State.collectEsc_result (b : Byte) (s : State) : (s.collectEsc b).result = s.result := rfl

/-! ### `closePayload` -/

@[simp] theorem State.closePayload_st (s : State) : (s.closePayload).st = .readTrail := rfl
@[simp] theorem State.closePayload_esc (s : State) : (s.closePayload).esc = s.esc := rfl
@[simp] theorem State.closePayload_cks (s : State) : (s.closePayload).cks = s.cks := rfl
@[simp] theorem State.closePayload_pay (s : State) : (s.closePayload).pay = s.pay := rfl
@[simp] theorem State.closePayload_raw (s : State) : (s.closePayload).raw = s.raw := rfl
@[simp] theorem State.closePayload_verifyEn (s : State) : (s.closePayload).verifyEn = s.verifyEn := rfl
@[simp] theorem State.closePayload_lastSeq (s : State) : (s.closePayload).lastSeq = s.lastSeq := rfl
@[simp] theorem State.closePayload_synced (s : State) : (s.closePayload).synced = s.synced := rfl
@[simp] theorem State.closePayload_tickAcc (s : State) : (s.closePayload).tickAcc = s.tickAcc := rfl
@[simp] theorem State.closePayload_lastSyncTs (s : State) : (s.closePayload).lastSyncTs = s.lastSyncTs := rfl
@[simp] theorem State.closePayload_firstSyncWall (s : State) : (s.closePayload).firstSyncWall = s.firstSyncWall := rfl
@[simp] theorem State.closePayload_lastRealTime (s : State) : (s.closePayload).lastRealTime = s.lastRealTime := rfl
@[simp] theorem State.closePayload_lastDevTs (s : State) : (s.closePayload).lastDevTs = s.lastDevTs := rfl
@[simp] theorem State.closePayload_txSeq (s : State) : (s.closePayload).txSeq = s.txSeq := rfl
@[simp] theorem State.closePayload_par (s : State) : (s.closePayload).par = s.par := rfl
@[simp] theorem State.closePayload_inbox (s : State) : (s.closePayload).inbox = s.inbox := rfl
@[simp] theorem State.closePayload_outs (s : State) : (s.closePayload).outs = s.outs := rfl
@[simp] theorem State.closePayload_result (s : State) : (s.closePayload).result = s.result := rfl

/-! ### `collectData` -/

@[simp] theorem State.collectData_st (b : Byte) (s : State) : (s.collectData b).st = s.st := rfl
@[simp] theorem State.collectData_esc (b : Byte) (s : State) : (s.collectData b).esc = s.esc := rfl
@[simp] theorem State.collectData_cks (b : Byte) (s : State) : (s.collectData b).cks = ckstep s.cks b := rfl
@[simp] theorem State.collectData_pay (b : Byte) (s : State) : (s.collectData b).pay = s.pay ++ [b] := rfl
@[simp] theorem State.collectData_raw (b : Byte) (s : State) : (s.collectData b).raw = s.raw := rfl
@[simp] theorem State.collectData_verifyEn (b : Byte) (s : State) : (s.collectData b).verifyEn = s.verifyEn := rfl
@[simp] theorem State.collectData_lastSeq (b : Byte) (s : State) : (s.collectData b).lastSeq = s.lastSeq := rfl
@[simp] theorem State.collectData_synced (b : Byte) (s : State) : (s.collectData b).synced = s.synced := rfl
@[simp] theorem State.collectData_tickAcc (b : Byte) (s : State) : (s.collectData b).tickAcc = s.tickAcc := rfl
@[simp] theorem State.collectData_lastSyncTs (b : Byte) (s : State) :
    (s.collectData b).lastSyncTs = s.lastSyncTs := rfl
@[simp] theorem State.collectData_firstSyncWall (b : Byte) (s : State) :
    (s.collectData b).firstSyncWall = s.firstSyncWall := rfl
@[simp] theorem State.collectData_lastRealTime (b : Byte) (s : State) :
    (s.collectData b).lastRealTime = s.lastRealTime := rfl
@[simp] theorem State.collectData_lastDevTs (b : Byte) (s : State) : (s.collectData b).lastDevTs = s.lastDevTs := rfl
@[simp] theorem State.collectData_txSeq (b : Byte) (s : State) : (s.collectData b).txSeq = s.txSeq := rfl
@[simp] theorem State.collectData_par (b : Byte) (s : State) : (s.collectData b).par = s.par := rfl
@[simp] theorem State.collectData_inbox (b : Byte) (s : State) : (s.collectData b).inbox = s.inbox := rfl
@[simp] theorem State.collectData_outs (b : Byte) (s : State) : (s.collectData b).outs = s.outs := rfl
@[simp] theorem State.collectData_result (b : Byte) (s : State) : (s.collectData b).result = s.result := rfl

/-! ### `toSeek` -/

@[simp] theorem State.toSeek_st (s : State) : (s.toSeek).st = .seekStart := rfl
@[simp] theorem State.toSeek_esc (s : State) : (s.toSeek).esc = false := rfl
@[simp] theorem State.toSeek_cks (s : State) : (s.toSeek).cks = cksumInit := rfl
@[simp] theorem State.toSeek_pay (s : State) : (s.toSeek).pay = [] := rfl
@[simp] theorem State.toSeek_raw (s : State) : (s.toSeek).raw = s.raw := rfl
@[simp] theorem State.toSeek_verifyEn (s : State) : (s.toSeek).verifyEn = s.verifyEn := rfl
@[simp] theorem State.toSeek_lastSeq (s : State) : (s.toSeek).lastSeq = s.lastSeq := rfl
@[simp] theorem State.toSeek_synced (s : State) : (s.toSeek).synced = s.synced := rfl
@[simp] theorem State.toSeek_tickAcc (s : State) : (s.toSeek).tickAcc = s.tickAcc := rfl
@[simp] theorem State.toSeek_lastSyncTs (s : State) : (s.toSeek).lastSyncTs = s.lastSyncTs := rfl
@[simp] theorem State.toSeek_firstSyncWall (s : State) : (s.toSeek).firstSyncWall = s.firstSyncWall := rfl
@[simp] theorem State.toSeek_lastRealTime (s : State) : (s.toSeek).lastRealTime = s.lastRealTime := rfl
@[simp] theorem State.toSeek_lastDevTs (s : State) : (s.toSeek).lastDevTs = s.lastDevTs := rfl
@[simp] theorem State.toSeek_txSeq (s : State) : (s.toSeek).txSeq = s.txSeq := rfl
@[simp] theorem State.toSeek_par (s : State) : (s.toSeek).par = s.par := rfl
@[simp] theorem State.toSeek_inbox (s : State) : (s.toSeek).inbox = s.inbox := rfl
@[simp] theorem State.toSeek_outs (s : State) : (s.toSeek).outs = s.outs := rfl
@[simp] theorem State.toSeek_result (s : State) : (s.toSeek).result = s.result := rfl

/-! ### `keepRaw` -/

@[simp] theorem State.keepRaw_st (b : Byte) (s : State) : (s.keepRaw b).st = s.st := rfl
@[simp] theorem State.keepRaw_esc (b : Byte) (s : State) : (s.keepRaw b).esc = s.esc := rfl
@[simp] theorem State.keepRaw_cks (b : Byte) (s : State) : (s.keepRaw b).cks = s.cks := rfl
@[simp] theorem State.keepRaw_pay (b : Byte) (s : State) : (s.keepRaw b).pay = s.pay := rfl
@[simp] theorem State.keepRaw_raw (b : Byte) (s : State) :
    (s.keepRaw b).raw = if s.st = .seekStart then [] else s.raw ++ [b] := rfl
@[simp] theorem State.keepRaw_verifyEn (b : Byte) (s : State) : (s.keepRaw b).verifyEn = s.verifyEn := rfl
@[simp] theorem State.keepRaw_lastSeq (b : Byte) (s : State) : (s.keepRaw b).lastSeq = s.lastSeq := rfl
@[simp] theorem State.keepRaw_synced (b : Byte) (s : State) : (s.keepRaw b).synced = s.synced := rfl
@[simp] theorem State.keepRaw_tickAcc (b : Byte) (s : State) : (s.keepRaw b).tickAcc = s.tickAcc := rfl
@[simp] theorem State.keepRaw_lastSyncTs (b : Byte) (s : State) : (s.keepRaw b).lastSyncTs = s.lastSyncTs := rfl
@[simp] theorem State.keepRaw_firstSyncWall (b : Byte) (s : State) :
    (s.keepRaw b).firstSyncWall = s.firstSyncWall := rfl
@[simp] theorem State.keepRaw_lastRealTime (b : Byte) (s : State) : (s.keepRaw b).lastRealTime = s.lastRealTime := rfl
@[simp] theorem State.keepRaw_lastDevTs (b : Byte) (s : State) : (s.keepRaw b).lastDevTs = s.lastDevTs := rfl
@[simp] theorem State.keepRaw_txSeq (b : Byte) (s : State) : (s.keepRaw b).txSeq = s.txSeq := rfl
@[simp] theorem State.keepRaw_par (b : Byte) (s : State) : (s.keepRaw b).par = s.par := rfl
@[simp] theorem State.keepRaw_inbox (b : Byte) (s : State) : (s.keepRaw b).inbox = s.inbox := rfl
@[simp] theorem State.keepRaw_outs (b : Byte) (s : State) : (s.keepRaw b).outs = s.outs := rfl
@[simp] theorem State.keepRaw_result (b : Byte) (s : State) : (s.keepRaw b).result = s.result := rfl

/-! ### `scannerReset` -/

@[simp] theorem State.scannerReset_st (s : State) : (s.scannerReset).st = .seekStart := rfl
@[simp] theorem State.scannerReset_esc (s : State) : (s.scannerReset).esc = false := rfl
@[simp] theorem State.scannerReset_cks (s : State) : (s.scannerReset).cks = cksumInit := rfl
@[simp] theorem State.scannerReset_pay (s : State) : (s.scannerReset).pay = [] := rfl
@[simp] theorem State.scannerReset_raw (s : State) : (s.scannerReset).raw = [] := rfl
@[simp] theorem State.scannerReset_verifyEn (s : State) : (s.scannerReset).verifyEn = s.verifyEn := rfl
@[simp] theorem State.scannerReset_lastSeq (s : State) : (s.scannerReset).lastSeq = s.lastSeq := rfl
@[simp] theorem State.scannerReset_synced (s : State) : (s.scannerReset).synced = s.synced := rfl
@[simp] theorem State.scannerReset_tickAcc (s : State) : (s.scannerReset).tickAcc = s.tickAcc := rfl
@[simp] theorem State.scannerReset_lastSyncTs (s : State) : (s.scannerReset).lastSyncTs = s.lastSyncTs := rfl
@[simp] theorem State.scannerReset_firstSyncWall (s : State) : (s.scannerReset).firstSyncWall = s.firstSyncWall := rfl
@[simp] theorem State.scannerReset_lastRealTime (s : State) : (s.scannerReset).lastRealTime = s.lastRealTime := rfl
@[simp] theorem State.scannerReset_lastDevTs (s : State) : (s.scannerReset).lastDevTs = s.lastDevTs := rfl
@[simp] theorem State.scannerReset_txSeq (s : State) : (s.scannerReset).txSeq = s.txSeq := rfl
@[simp] theorem State.scannerReset_par (s : State) : (s.scannerReset).par = s.par := rfl
@[simp] theorem State.scannerReset_inbox (s : State) : (s.scannerReset).inbox = s.inbox := rfl
@[simp] theorem State.scannerReset_outs (s : State) : (s.scannerReset).outs = s.outs := rfl
@[simp] theorem State.scannerReset_result (s : State) : (s.scannerReset).result = s.result := rfl

/-! ### `setVerify` -/

@[simp] theorem State.setVerify_st (v : Bool) (s : State) : (s.setVerify v).st = s.st := rfl
@[simp] theorem State.setVerify_esc (v : Bool) (s : State) : (s.setVerify v).esc = s.esc := rfl
@[simp] theorem State.setVerify_cks (v : Bool) (s : State) : (s.setVerify v).cks = s.cks := rfl
@[simp] theorem State.setVerify_pay (v : Bool) (s : State) : (s.setVerify v).pay = s.pay := rfl
@[simp] theorem State.setVerify_raw (v : Bool) (s : State) : (s.setVerify v).raw = s.raw := rfl
@[simp] theorem State.setVerify_verifyEn (v : Bool) (s : State) : (s.setVerify v).verifyEn = v := rfl
@[simp] theorem State.setVerify_lastSeq (v : Bool) (s : State) : (s.setVerify v).lastSeq = s.lastSeq := rfl
@[simp] theorem State.setVerify_synced (v : Bool) (s : State) : (s.setVerify v).synced = s.synced := rfl
@[simp] theorem State.setVerify_tickAcc (v : Bool) (s : State) : (s.setVerify v).tickAcc = s.tickAcc := rfl
@[simp] theorem State.setVerify_lastSyncTs (v : Bool) (s : State) : (s.setVerify v).lastSyncTs = s.lastSyncTs := rfl
@[simp] theorem State.setVerify_firstSyncWall (v : Bool) (s : State) :
    (s.setVerify v).firstSyncWall = s.firstSyncWall := rfl
@[simp] theorem State.setVerify_lastRealTime (v : Bool) (s : State) :
    (s.setVerify v).lastRealTime = s.lastRealTime := rfl
@[simp] theorem State.setVerify_lastDevTs (v : Bool) (s : State) : (s.setVerify v).lastDevTs = s.lastDevTs := rfl
@[simp] theorem State.setVerify_txSeq (v : Bool) (s : State) : (s.setVerify v).txSeq = s.txSeq := rfl
@[simp] theorem State.setVerify_par (v : Bool) (s : State) : (s.setVerify v).par = s.par := rfl
@[simp] theorem State.setVerify_inbox (v : Bool) (s : State) : (s.setVerify v).inbox = s.inbox := rfl
@[simp] theorem State.setVerify_outs (v : Bool) (s : State) : (s.setVerify v).outs = s.outs := rfl
@[simp] theorem State.setVerify_result (v : Bool) (s : State) : (s.setVerify v).result = s.result := rfl

/-! ### `resetRegs` -/

@[simp] theorem State.resetRegs_st (s : State) : (s.resetRegs).st = State.reset.st := rfl
@[simp] theorem State.resetRegs_esc (s : State) : (s.resetRegs).esc = State.reset.esc := rfl
@[simp] theorem State.resetRegs_cks (s : State) : (s.resetRegs).cks = State.reset.cks := rfl
@[simp] theorem State.resetRegs_pay (s : State) : (s.resetRegs).pay = State.reset.pay := rfl
@[simp] theorem State.resetRegs_raw (s : State) : (s.resetRegs).raw = State.reset.raw := rfl
@[simp] theorem State.resetRegs_verifyEn (s : State) : (s.resetRegs).verifyEn = State.reset.verifyEn := rfl
@[simp] theorem State.resetRegs_lastSeq (s : State) : (s.resetRegs).lastSeq = State.reset.lastSeq := rfl
@[simp] theorem State.resetRegs_synced (s : State) : (s.resetRegs).synced = State.reset.synced := rfl
@[simp] theorem State.resetRegs_tickAcc (s : State) : (s.resetRegs).tickAcc = State.reset.tickAcc := rfl
@[simp] theorem State.resetRegs_lastSyncTs (s : State) : (s.resetRegs).lastSyncTs = State.reset.lastSyncTs := rfl
@[simp] theorem State.resetRegs_firstSyncWall (s : State) :
    (s.resetRegs).firstSyncWall = State.reset.firstSyncWall := rfl
@[simp] theorem State.resetRegs_lastRealTime (s : State) :
    (s.resetRegs).lastRealTime = State.reset.lastRealTime := rfl
@[simp] theorem State.resetRegs_lastDevTs (s : State) : (s.resetRegs).lastDevTs = State.reset.lastDevTs := rfl
@[simp] theorem State.resetRegs_txSeq (s : State) : (s.resetRegs).txSeq = State.reset.txSeq := rfl
@[simp] theorem State.resetRegs_par (s : State) : (s.resetRegs).par = s.par := rfl
@[simp] theorem State.resetRegs_inbox (s : State) : (s.resetRegs).inbox = s.inbox := rfl
@[simp] theorem State.resetRegs_outs (s : State) : (s.resetRegs).outs = s.outs := rfl
@[simp] theorem State.resetRegs_result (s : State) : (s.resetRegs).result = s.result := rfl

end Sys2Proof.Machine
end

