-- ==== Sys2Proof/Laws/Frames.lean ====
section
/-! SUPPORT. What each composed operation leaves unchanged, field by field, and that outputs are only appended. -/

namespace Sys2Proof.Machine

/-! ### `emitIf` -/

@[simp] theorem State.emitIf_st (c : Bool) (e : Ev) (s : State) : (s.emitIf c e).st = s.st := by
  unfold State.emitIf; split <;> simp
@[simp] theorem State.emitIf_esc (c : Bool) (e : Ev) (s : State) : (s.emitIf c e).esc = s.esc := by
  unfold State.emitIf; split <;> simp
@[simp] theorem State.emitIf_cks (c : Bool) (e : Ev) (s : State) : (s.emitIf c e).cks = s.cks := by
  unfold State.emitIf; split <;> simp
@[simp] theorem State.emitIf_pay (c : Bool) (e : Ev) (s : State) : (s.emitIf c e).pay = s.pay := by
  unfold State.emitIf; split <;> simp
@[simp] theorem State.emitIf_raw (c : Bool) (e : Ev) (s : State) : (s.emitIf c e).raw = s.raw := by
  unfold State.emitIf; split <;> simp
@[simp] theorem State.emitIf_verifyEn (c : Bool) (e : Ev) (s : State) : (s.emitIf c e).verifyEn = s.verifyEn := by
  unfold State.emitIf; split <;> simp
@[simp] theorem State.emitIf_lastSeq (c : Bool) (e : Ev) (s : State) : (s.emitIf c e).lastSeq = s.lastSeq := by
  unfold State.emitIf; split <;> simp
@[simp] theorem State.emitIf_synced (c : Bool) (e : Ev) (s : State) : (s.emitIf c e).synced = s.synced := by
  unfold State.emitIf; split <;> simp
@[simp] theorem State.emitIf_tickAcc (c : Bool) (e : Ev) (s : State) : (s.emitIf c e).tickAcc = s.tickAcc := by
  unfold State.emitIf; split <;> simp
@[simp] theorem State.emitIf_lastSyncTs (c : Bool) (e : Ev) (s : State) :
    (s.emitIf c e).lastSyncTs = s.lastSyncTs := by
  unfold State.emitIf; split <;> simp
@[simp] theorem State.emitIf_firstSyncWall (c : Bool) (e : Ev) (s : State) :
    (s.emitIf c e).firstSyncWall = s.firstSyncWall := by
  unfold State.emitIf; split <;> simp
@[simp] theorem State.emitIf_lastRealTime (c : Bool) (e : Ev) (s : State) :
    (s.emitIf c e).lastRealTime = s.lastRealTime := by
  unfold State.emitIf; split <;> simp
@[simp] theorem State.emitIf_lastDevTs (c : Bool) (e : Ev) (s : State) : (s.emitIf c e).lastDevTs = s.lastDevTs := by
  unfold State.emitIf; split <;> simp
@[simp] theorem State.emitIf_txSeq (c : Bool) (e : Ev) (s : State) : (s.emitIf c e).txSeq = s.txSeq := by
  unfold State.emitIf; split <;> simp
@[simp] theorem State.emitIf_par (c : Bool) (e : Ev) (s : State) : (s.emitIf c e).par = s.par := by
  unfold State.emitIf; split <;> simp
@[simp] theorem State.emitIf_inbox (c : Bool) (e : Ev) (s : State) : (s.emitIf c e).inbox = s.inbox := by
  unfold State.emitIf; split <;> simp
@[simp] theorem State.emitIf_result (c : Bool) (e : Ev) (s : State) : (s.emitIf c e).result = s.result := by
  unfold State.emitIf; split <;> simp

/-! ### `correctDrift` -/

@[simp] theorem State.correctDrift_st (now : Rat) (s : State) : (s.correctDrift now).st = s.st := by
  simp only [State.correctDrift]; split <;> simp
@[simp] theorem State.correctDrift_esc (now : Rat) (s : State) : (s.correctDrift now).esc = s.esc := by
  simp only [State.correctDrift]; split <;> simp
@[simp] theorem State.correctDrift_cks (now : Rat) (s : State) : (s.correctDrift now).cks = s.cks := by
  simp only [State.correctDrift]; split <;> simp
@[simp] theorem State.correctDrift_pay (now : Rat) (s : State) : (s.correctDrift now).pay = s.pay := by
  simp only [State.correctDrift]; split <;> simp
@[simp] theorem State.correctDrift_raw (now : Rat) (s : State) : (s.correctDrift now).raw = s.raw := by
  simp only [State.correctDrift]; split <;> simp
@[simp] theorem State.correctDrift_verifyEn (now : Rat) (s : State) : (s.correctDrift now).verifyEn = s.verifyEn := by
  simp only [State.correctDrift]; split <;> simp
@[simp] theorem State.correctDrift_lastSeq (now : Rat) (s : State) : (s.correctDrift now).lastSeq = s.lastSeq := by
  simp only [State.correctDrift]; split <;> simp
@[simp] theorem State.correctDrift_synced (now : Rat) (s : State) : (s.correctDrift now).synced = s.synced := by
  simp only [State.correctDrift]; split <;> simp
@[simp] theorem State.correctDrift_lastSyncTs (now : Rat) (s : State) :
    (s.correctDrift now).lastSyncTs = s.lastSyncTs := by
  simp only [State.correctDrift]; split <;> simp
@[simp] theorem State.correctDrift_firstSyncWall (now : Rat) (s : State) :
    (s.correctDrift now).firstSyncWall = s.firstSyncWall := by
  simp only [State.correctDrift]; split <;> simp
@[simp] theorem State.correctDrift_lastRealTime (now : Rat) (s : State) :
    (s.correctDrift now).lastRealTime = s.lastRealTime := by
  simp only [State.correctDrift]; split <;> simp
@[simp] theorem State.correctDrift_lastDevTs (now : Rat) (s : State) :
    (s.correctDrift now).lastDevTs = s.lastDevTs := by
  simp only [State.correctDrift]; split <;> simp
@[simp] theorem State.correctDrift_txSeq (now : Rat) (s : State) : (s.correctDrift now).txSeq = s.txSeq := by
  simp only [State.correctDrift]; split <;> simp
@[simp] theorem State.correctDrift_par (now : Rat) (s : State) : (s.correctDrift now).par = s.par := by
  simp only [State.correctDrift]; split <;> simp
@[simp] theorem State.correctDrift_inbox (now : Rat) (s : State) : (s.correctDrift now).inbox = s.inbox := by
  simp only [State.correctDrift]; split <;> simp
@[simp] theorem State.correctDrift_result (now : Rat) (s : State) : (s.correctDrift now).result = s.result := by
  simp only [State.correctDrift]; split <;> simp

/-! ### `laterSync` -/

@[simp] theorem State.laterSync_st (t : Word) (now : Rat) (s : State) : (s.laterSync t now).st = s.st := by
  simp [State.laterSync]
@[simp] theorem State.laterSync_esc (t : Word) (now : Rat) (s : State) : (s.laterSync t now).esc = s.esc := by
  simp [State.laterSync]
@[simp] theorem State.laterSync_cks (t : Word) (now : Rat) (s : State) : (s.laterSync t now).cks = s.cks := by
  simp [State.laterSync]
@[simp] theorem State.laterSync_pay (t : Word) (now : Rat) (s : State) : (s.laterSync t now).pay = s.pay := by
  simp [State.laterSync]
@[simp] theorem State.laterSync_raw (t : Word) (now : Rat) (s : State) : (s.laterSync t now).raw = s.raw := by
  simp [State.laterSync]
@[simp] theorem State.laterSync_verifyEn (t : Word) (now : Rat) (s : State) :
    (s.laterSync t now).verifyEn = s.verifyEn := by
  simp [State.laterSync]
@[simp] theorem State.laterSync_lastSeq (t : Word) (now : Rat) (s : State) :
    (s.laterSync t now).lastSeq = s.lastSeq := by
  simp [State.laterSync]
@[simp] theorem State.laterSync_synced (t : Word) (now : Rat) (s : State) :
    (s.laterSync t now).synced = s.synced := by
  simp [State.laterSync]
@[simp] theorem State.laterSync_firstSyncWall (t : Word) (now : Rat) (s : State) :
    (s.laterSync t now).firstSyncWall = s.firstSyncWall := by
  simp [State.laterSync]
@[simp] theorem State.laterSync_lastRealTime (t : Word) (now : Rat) (s : State) :
    (s.laterSync t now).lastRealTime = s.lastRealTime := by
  simp [State.laterSync]
@[simp] theorem State.laterSync_lastDevTs (t : Word) (now : Rat) (s : State) :
    (s.laterSync t now).lastDevTs = s.lastDevTs := by
  simp [State.laterSync]
@[simp] theorem State.laterSync_txSeq (t : Word) (now : Rat) (s : State) : (s.laterSync t now).txSeq = s.txSeq := by
  simp [State.laterSync]
@[simp] theorem State.laterSync_par (t : Word) (now : Rat) (s : State) : (s.laterSync t now).par = s.par := by
  simp [State.laterSync]
@[simp] theorem State.laterSync_inbox (t : Word) (now : Rat) (s : State) : (s.laterSync t now).inbox = s.inbox := by
  simp [State.laterSync]
@[simp] theorem State.laterSync_result (t : Word) (now : Rat) (s : State) :
    (s.laterSync t now).result = s.result := by
  simp [State.laterSync]

/-! ### `clockSync` -/

@[simp] theorem State.clockSync_st (t : Word) (now : Rat) (s : State) : (s.clockSync t now).st = s.st := by
  unfold State.clockSync; split <;> simp
@[simp] theorem State.clockSync_esc (t : Word) (now : Rat) (s : State) : (s.clockSync t now).esc = s.esc := by
  unfold State.clockSync; split <;> simp
@[simp] theorem State.clockSync_cks (t : Word) (now : Rat) (s : State) : (s.clockSync t now).cks = s.cks := by
  unfold State.clockSync; split <;> simp
@[simp] theorem State.clockSync_pay (t : Word) (now : Rat) (s : State) : (s.clockSync t now).pay = s.pay := by
  unfold State.clockSync; split <;> simp
@[simp] theorem State.clockSync_raw (t : Word) (now : Rat) (s : State) : (s.clockSync t now).raw = s.raw := by
  unfold State.clockSync; split <;> simp
@[simp] theorem State.clockSync_verifyEn (t : Word) (now : Rat) (s : State) :
    (s.clockSync t now).verifyEn = s.verifyEn := by
  unfold State.clockSync; split <;> simp
@[simp] theorem State.clockSync_lastRealTime (t : Word) (now : Rat) (s : State) :
    (s.clockSync t now).lastRealTime = s.lastRealTime := by
  unfold State.clockSync; split <;> simp
@[simp] theorem State.clockSync_lastDevTs (t : Word) (now : Rat) (s : State) :
    (s.clockSync t now).lastDevTs = s.lastDevTs := by
  unfold State.clockSync; split <;> simp
@[simp] theorem State.clockSync_txSeq (t : Word) (now : Rat) (s : State) : (s.clockSync t now).txSeq = s.txSeq := by
  unfold State.clockSync; split <;> simp
@[simp] theorem State.clockSync_par (t : Word) (now : Rat) (s : State) : (s.clockSync t now).par = s.par := by
  unfold State.clockSync; split <;> simp
@[simp] theorem State.clockSync_inbox (t : Word) (now : Rat) (s : State) : (s.clockSync t now).inbox = s.inbox := by
  unfold State.clockSync; split <;> simp
@[simp] theorem State.clockSync_result (t : Word) (now : Rat) (s : State) :
    (s.clockSync t now).result = s.result := by
  unfold State.clockSync; split <;> simp
@[simp] theorem State.clockSync_lastSeq (t : Word) (now : Rat) (s : State) :
    (s.clockSync t now).lastSeq = s.lastSeq := by
  unfold State.clockSync; split <;> simp

/-! ### `syncPacket` -/

@[simp] theorem State.syncPacket_st (ws : List Word) (now : Rat) (s : State) : (s.syncPacket ws now).st = s.st := by
  unfold State.syncPacket; split <;> simp
@[simp] theorem State.syncPacket_esc (ws : List Word) (now : Rat) (s : State) :
    (s.syncPacket ws now).esc = s.esc := by
  unfold State.syncPacket; split <;> simp
@[simp] theorem State.syncPacket_cks (ws : List Word) (now : Rat) (s : State) :
    (s.syncPacket ws now).cks = s.cks := by
  unfold State.syncPacket; split <;> simp
@[simp] theorem State.syncPacket_pay (ws : List Word) (now : Rat) (s : State) :
    (s.syncPacket ws now).pay = s.pay := by
  unfold State.syncPacket; split <;> simp
@[simp] theorem State.syncPacket_raw (ws : List Word) (now : Rat) (s : State) :
    (s.syncPacket ws now).raw = s.raw := by
  unfold State.syncPacket; split <;> simp
@[simp] theorem State.syncPacket_verifyEn (ws : List Word) (now : Rat) (s : State) :
    (s.syncPacket ws now).verifyEn = s.verifyEn := by
  unfold State.syncPacket; split <;> simp
@[simp] theorem State.syncPacket_lastRealTime (ws : List Word) (now : Rat) (s : State) :
    (s.syncPacket ws now).lastRealTime = s.lastRealTime := by
  unfold State.syncPacket; split <;> simp
@[simp] theorem State.syncPacket_lastDevTs (ws : List Word) (now : Rat) (s : State) :
    (s.syncPacket ws now).lastDevTs = s.lastDevTs := by
  unfold State.syncPacket; split <;> simp
@[simp] theorem State.syncPacket_txSeq (ws : List Word) (now : Rat) (s : State) :
    (s.syncPacket ws now).txSeq = s.txSeq := by
  unfold State.syncPacket; split <;> simp
@[simp] theorem State.syncPacket_par (ws : List Word) (now : Rat) (s : State) :
    (s.syncPacket ws now).par = s.par := by
  unfold State.syncPacket; split <;> simp
@[simp] theorem State.syncPacket_inbox (ws : List Word) (now : Rat) (s : State) :
    (s.syncPacket ws now).inbox = s.inbox := by
  unfold State.syncPacket; split <;> simp
@[simp] theorem State.syncPacket_result (ws : List Word) (now : Rat) (s : State) :
    (s.syncPacket ws now).result = s.result := by
  unfold State.syncPacket; split <;> simp
@[simp] theorem State.syncPacket_lastSeq (ws : List Word) (now : Rat) (s : State) :
    (s.syncPacket ws now).lastSeq = s.lastSeq := by
  unfold State.syncPacket; split <;> simp

/-! ### `control` -/

@[simp] theorem State.control_st (id : MsgId) (seq : Byte) (ws : List Word) (now : Rat) (s : State) :
    (s.control id seq ws now).st = s.st := by
  unfold State.control; split <;> simp
@[simp] theorem State.control_esc (id : MsgId) (seq : Byte) (ws : List Word) (now : Rat) (s : State) :
    (s.control id seq ws now).esc = s.esc := by
  unfold State.control; split <;> simp
@[simp] theorem State.control_cks (id : MsgId) (seq : Byte) (ws : List Word) (now : Rat) (s : State) :
    (s.control id seq ws now).cks = s.cks := by
  unfold State.control; split <;> simp
@[simp] theorem State.control_pay (id : MsgId) (seq : Byte) (ws : List Word) (now : Rat) (s : State) :
    (s.control id seq ws now).pay = s.pay := by
  unfold State.control; split <;> simp
@[simp] theorem State.control_raw (id : MsgId) (seq : Byte) (ws : List Word) (now : Rat) (s : State) :
    (s.control id seq ws now).raw = s.raw := by
  unfold State.control; split <;> simp
@[simp] theorem State.control_verifyEn (id : MsgId) (seq : Byte) (ws : List Word) (now : Rat) (s : State) :
    (s.control id seq ws now).verifyEn = s.verifyEn := by
  unfold State.control; split <;> simp
@[simp] theorem State.control_lastRealTime (id : MsgId) (seq : Byte) (ws : List Word) (now : Rat) (s : State) :
    (s.control id seq ws now).lastRealTime = s.lastRealTime := by
  unfold State.control; split <;> simp
@[simp] theorem State.control_lastDevTs (id : MsgId) (seq : Byte) (ws : List Word) (now : Rat) (s : State) :
    (s.control id seq ws now).lastDevTs = s.lastDevTs := by
  unfold State.control; split <;> simp
@[simp] theorem State.control_txSeq (id : MsgId) (seq : Byte) (ws : List Word) (now : Rat) (s : State) :
    (s.control id seq ws now).txSeq = s.txSeq := by
  unfold State.control; split <;> simp
@[simp] theorem State.control_par (id : MsgId) (seq : Byte) (ws : List Word) (now : Rat) (s : State) :
    (s.control id seq ws now).par = s.par := by
  unfold State.control; split <;> simp
@[simp] theorem State.control_inbox (id : MsgId) (seq : Byte) (ws : List Word) (now : Rat) (s : State) :
    (s.control id seq ws now).inbox = s.inbox := by
  unfold State.control; split <;> simp
@[simp] theorem State.control_result (id : MsgId) (seq : Byte) (ws : List Word) (now : Rat) (s : State) :
    (s.control id seq ws now).result = s.result := by
  unfold State.control; split <;> simp

/-! ### `ctrl` -/

@[simp] theorem State.ctrl_st (p : Payload) (now : Rat) (s : State) : (s.ctrl p now).st = s.st := by
  unfold State.ctrl; split <;> [skip; split] <;> simp
@[simp] theorem State.ctrl_esc (p : Payload) (now : Rat) (s : State) : (s.ctrl p now).esc = s.esc := by
  unfold State.ctrl; split <;> [skip; split] <;> simp
@[simp] theorem State.ctrl_cks (p : Payload) (now : Rat) (s : State) : (s.ctrl p now).cks = s.cks := by
  unfold State.ctrl; split <;> [skip; split] <;> simp
@[simp] theorem State.ctrl_pay (p : Payload) (now : Rat) (s : State) : (s.ctrl p now).pay = s.pay := by
  unfold State.ctrl; split <;> [skip; split] <;> simp
@[simp] theorem State.ctrl_raw (p : Payload) (now : Rat) (s : State) : (s.ctrl p now).raw = s.raw := by
  unfold State.ctrl; split <;> [skip; split] <;> simp
@[simp] theorem State.ctrl_verifyEn (p : Payload) (now : Rat) (s : State) : (s.ctrl p now).verifyEn = s.verifyEn := by
  unfold State.ctrl; split <;> [skip; split] <;> simp
@[simp] theorem State.ctrl_lastRealTime (p : Payload) (now : Rat) (s : State) :
    (s.ctrl p now).lastRealTime = s.lastRealTime := by
  unfold State.ctrl; split <;> [skip; split] <;> simp
@[simp] theorem State.ctrl_lastDevTs (p : Payload) (now : Rat) (s : State) :
    (s.ctrl p now).lastDevTs = s.lastDevTs := by
  unfold State.ctrl; split <;> [skip; split] <;> simp
@[simp] theorem State.ctrl_txSeq (p : Payload) (now : Rat) (s : State) : (s.ctrl p now).txSeq = s.txSeq := by
  unfold State.ctrl; split <;> [skip; split] <;> simp
@[simp] theorem State.ctrl_par (p : Payload) (now : Rat) (s : State) : (s.ctrl p now).par = s.par := by
  unfold State.ctrl; split <;> [skip; split] <;> simp
@[simp] theorem State.ctrl_inbox (p : Payload) (now : Rat) (s : State) : (s.ctrl p now).inbox = s.inbox := by
  unfold State.ctrl; split <;> [skip; split] <;> simp
@[simp] theorem State.ctrl_result (p : Payload) (now : Rat) (s : State) : (s.ctrl p now).result = s.result := by
  unfold State.ctrl; split <;> [skip; split] <;> simp

/-! ### `classify` -/

@[simp] theorem State.classify_st (p : Payload) (now : Rat) (s : State) : (s.classify p now).st = s.st := by
  unfold State.classify; split <;> simp
@[simp] theorem State.classify_esc (p : Payload) (now : Rat) (s : State) : (s.classify p now).esc = s.esc := by
  unfold State.classify; split <;> simp
@[simp] theorem State.classify_cks (p : Payload) (now : Rat) (s : State) : (s.classify p now).cks = s.cks := by
  unfold State.classify; split <;> simp
@[simp] theorem State.classify_pay (p : Payload) (now : Rat) (s : State) : (s.classify p now).pay = s.pay := by
  unfold State.classify; split <;> simp
@[simp] theorem State.classify_raw (p : Payload) (now : Rat) (s : State) : (s.classify p now).raw = s.raw := by
  unfold State.classify; split <;> simp
@[simp] theorem State.classify_verifyEn (p : Payload) (now : Rat) (s : State) :
    (s.classify p now).verifyEn = s.verifyEn := by
  unfold State.classify; split <;> simp
@[simp] theorem State.classify_lastRealTime (p : Payload) (now : Rat) (s : State) :
    (s.classify p now).lastRealTime = s.lastRealTime := by
  unfold State.classify; split <;> simp
@[simp] theorem State.classify_lastDevTs (p : Payload) (now : Rat) (s : State) :
    (s.classify p now).lastDevTs = s.lastDevTs := by
  unfold State.classify; split <;> simp
@[simp] theorem State.classify_txSeq (p : Payload) (now : Rat) (s : State) : (s.classify p now).txSeq = s.txSeq := by
  unfold State.classify; split <;> simp
@[simp] theorem State.classify_par (p : Payload) (now : Rat) (s : State) : (s.classify p now).par = s.par := by
  unfold State.classify; split <;> simp
@[simp] theorem State.classify_inbox (p : Payload) (now : Rat) (s : State) : (s.classify p now).inbox = s.inbox := by
  unfold State.classify; split <;> simp
@[simp] theorem State.classify_result (p : Payload) (now : Rat) (s : State) :
    (s.classify p now).result = s.result := by
  unfold State.classify; split <;> simp

/-! ### `judge` -/

@[simp] theorem State.judge_st (b : Byte) (now : Rat) (s : State) : (s.judge b now).st = s.st := by
  unfold State.judge; split <;> simp
@[simp] theorem State.judge_esc (b : Byte) (now : Rat) (s : State) : (s.judge b now).esc = s.esc := by
  unfold State.judge; split <;> simp
@[simp] theorem State.judge_cks (b : Byte) (now : Rat) (s : State) : (s.judge b now).cks = s.cks := by
  unfold State.judge; split <;> simp
@[simp] theorem State.judge_pay (b : Byte) (now : Rat) (s : State) : (s.judge b now).pay = s.pay := by
  unfold State.judge; split <;> simp
@[simp] theorem State.judge_raw (b : Byte) (now : Rat) (s : State) : (s.judge b now).raw = s.raw := by
  unfold State.judge; split <;> simp
@[simp] theorem State.judge_verifyEn (b : Byte) (now : Rat) (s : State) : (s.judge b now).verifyEn = s.verifyEn := by
  unfold State.judge; split <;> simp
@[simp] theorem State.judge_lastRealTime (b : Byte) (now : Rat) (s : State) :
    (s.judge b now).lastRealTime = s.lastRealTime := by
  unfold State.judge; split <;> simp
@[simp] theorem State.judge_lastDevTs (b : Byte) (now : Rat) (s : State) :
    (s.judge b now).lastDevTs = s.lastDevTs := by
  unfold State.judge; split <;> simp
@[simp] theorem State.judge_txSeq (b : Byte) (now : Rat) (s : State) : (s.judge b now).txSeq = s.txSeq := by
  unfold State.judge; split <;> simp
@[simp] theorem State.judge_par (b : Byte) (now : Rat) (s : State) : (s.judge b now).par = s.par := by
  unfold State.judge; split <;> simp
@[simp] theorem State.judge_inbox (b : Byte) (now : Rat) (s : State) : (s.judge b now).inbox = s.inbox := by
  unfold State.judge; split <;> simp
@[simp] theorem State.judge_result (b : Byte) (now : Rat) (s : State) : (s.judge b now).result = s.result := by
  unfold State.judge; split <;> simp

/-! ### `completeFrame` -/

@[simp] theorem State.completeFrame_raw (b : Byte) (now : Rat) (s : State) : (s.completeFrame b now).raw = s.raw := by
  simp [State.completeFrame]
@[simp] theorem State.completeFrame_verifyEn (b : Byte) (now : Rat) (s : State) :
    (s.completeFrame b now).verifyEn = s.verifyEn := by
  simp [State.completeFrame]
@[simp] theorem State.completeFrame_lastRealTime (b : Byte) (now : Rat) (s : State) :
    (s.completeFrame b now).lastRealTime = s.lastRealTime := by
  simp [State.completeFrame]
@[simp] theorem State.completeFrame_lastDevTs (b : Byte) (now : Rat) (s : State) :
    (s.completeFrame b now).lastDevTs = s.lastDevTs := by
  simp [State.completeFrame]
@[simp] theorem State.completeFrame_txSeq (b : Byte) (now : Rat) (s : State) :
    (s.completeFrame b now).txSeq = s.txSeq := by
  simp [State.completeFrame]
@[simp] theorem State.completeFrame_par (b : Byte) (now : Rat) (s : State) : (s.completeFrame b now).par = s.par := by
  simp [State.completeFrame]
@[simp] theorem State.completeFrame_inbox (b : Byte) (now : Rat) (s : State) :
    (s.completeFrame b now).inbox = s.inbox := by
  simp [State.completeFrame]
@[simp] theorem State.completeFrame_result (b : Byte) (now : Rat) (s : State) :
    (s.completeFrame b now).result = s.result := by
  simp [State.completeFrame]

/-! ### `realtime` -/

@[simp] theorem State.realtime_st (ts : Word) (sid : StreamId) (s : State) : (s.realtime ts sid).st = s.st := by
  unfold State.realtime; split <;> simp
@[simp] theorem State.realtime_esc (ts : Word) (sid : StreamId) (s : State) : (s.realtime ts sid).esc = s.esc := by
  unfold State.realtime; split <;> simp
@[simp] theorem State.realtime_cks (ts : Word) (sid : StreamId) (s : State) : (s.realtime ts sid).cks = s.cks := by
  unfold State.realtime; split <;> simp
@[simp] theorem State.realtime_pay (ts : Word) (sid : StreamId) (s : State) : (s.realtime ts sid).pay = s.pay := by
  unfold State.realtime; split <;> simp
@[simp] theorem State.realtime_raw (ts : Word) (sid : StreamId) (s : State) : (s.realtime ts sid).raw = s.raw := by
  unfold State.realtime; split <;> simp
@[simp] theorem State.realtime_verifyEn (ts : Word) (sid : StreamId) (s : State) :
    (s.realtime ts sid).verifyEn = s.verifyEn := by
  unfold State.realtime; split <;> simp
@[simp] theorem State.realtime_lastSeq (ts : Word) (sid : StreamId) (s : State) :
    (s.realtime ts sid).lastSeq = s.lastSeq := by
  unfold State.realtime; split <;> simp
@[simp] theorem State.realtime_synced (ts : Word) (sid : StreamId) (s : State) :
    (s.realtime ts sid).synced = s.synced := by
  unfold State.realtime; split <;> simp
@[simp] theorem State.realtime_tickAcc (ts : Word) (sid : StreamId) (s : State) :
    (s.realtime ts sid).tickAcc = s.tickAcc := by
  unfold State.realtime; split <;> simp
@[simp] theorem State.realtime_lastSyncTs (ts : Word) (sid : StreamId) (s : State) :
    (s.realtime ts sid).lastSyncTs = s.lastSyncTs := by
  unfold State.realtime; split <;> simp
@[simp] theorem State.realtime_firstSyncWall (ts : Word) (sid : StreamId) (s : State) :
    (s.realtime ts sid).firstSyncWall = s.firstSyncWall := by
  unfold State.realtime; split <;> simp
@[simp] theorem State.realtime_txSeq (ts : Word) (sid : StreamId) (s : State) :
    (s.realtime ts sid).txSeq = s.txSeq := by
  unfold State.realtime; split <;> simp
@[simp] theorem State.realtime_par (ts : Word) (sid : StreamId) (s : State) : (s.realtime ts sid).par = s.par := by
  unfold State.realtime; split <;> simp
@[simp] theorem State.realtime_inbox (ts : Word) (sid : StreamId) (s : State) :
    (s.realtime ts sid).inbox = s.inbox := by
  unfold State.realtime; split <;> simp
@[simp] theorem State.realtime_result (ts : Word) (sid : StreamId) (s : State) :
    (s.realtime ts sid).result = s.result := by
  unfold State.realtime; split <;> simp

/-! ### `rxClass` -/

@[simp] theorem State.rxClass_verifyEn (c : ByteClass) (b : Byte) (now : Rat) (s : State) :
    (s.rxClass c b now).verifyEn = s.verifyEn := by
  unfold State.rxClass; repeat' split
  all_goals simp
@[simp] theorem State.rxClass_lastRealTime (c : ByteClass) (b : Byte) (now : Rat) (s : State) :
    (s.rxClass c b now).lastRealTime = s.lastRealTime := by
  unfold State.rxClass; repeat' split
  all_goals simp
@[simp] theorem State.rxClass_lastDevTs (c : ByteClass) (b : Byte) (now : Rat) (s : State) :
    (s.rxClass c b now).lastDevTs = s.lastDevTs := by
  unfold State.rxClass; repeat' split
  all_goals simp
@[simp] theorem State.rxClass_txSeq (c : ByteClass) (b : Byte) (now : Rat) (s : State) :
    (s.rxClass c b now).txSeq = s.txSeq := by
  unfold State.rxClass; repeat' split
  all_goals simp
@[simp] theorem State.rxClass_par (c : ByteClass) (b : Byte) (now : Rat) (s : State) :
    (s.rxClass c b now).par = s.par := by
  unfold State.rxClass; repeat' split
  all_goals simp
@[simp] theorem State.rxClass_inbox (c : ByteClass) (b : Byte) (now : Rat) (s : State) :
    (s.rxClass c b now).inbox = s.inbox := by
  unfold State.rxClass; repeat' split
  all_goals simp
@[simp] theorem State.rxClass_result (c : ByteClass) (b : Byte) (now : Rat) (s : State) :
    (s.rxClass c b now).result = s.result := by
  unfold State.rxClass; repeat' split
  all_goals simp

/-! ### `rxByte` -/

@[simp] theorem State.rxByte_verifyEn (b : Byte) (now : Rat) (s : State) :
    (s.rxByte b now).verifyEn = s.verifyEn := by
  simp [State.rxByte]
@[simp] theorem State.rxByte_lastRealTime (b : Byte) (now : Rat) (s : State) :
    (s.rxByte b now).lastRealTime = s.lastRealTime := by
  simp [State.rxByte]
@[simp] theorem State.rxByte_lastDevTs (b : Byte) (now : Rat) (s : State) :
    (s.rxByte b now).lastDevTs = s.lastDevTs := by
  simp [State.rxByte]
@[simp] theorem State.rxByte_txSeq (b : Byte) (now : Rat) (s : State) : (s.rxByte b now).txSeq = s.txSeq := by
  simp [State.rxByte]
@[simp] theorem State.rxByte_par (b : Byte) (now : Rat) (s : State) : (s.rxByte b now).par = s.par := by
  simp [State.rxByte]
@[simp] theorem State.rxByte_inbox (b : Byte) (now : Rat) (s : State) : (s.rxByte b now).inbox = s.inbox := by
  simp [State.rxByte]
@[simp] theorem State.rxByte_result (b : Byte) (now : Rat) (s : State) : (s.rxByte b now).result = s.result := by
  simp [State.rxByte]

/-! ### `rxAll` -/

@[simp] theorem State.rxAll_verifyEn (buf : List RxByte) (s : State) :
    (s.rxAll buf).verifyEn = s.verifyEn := by
  induction buf generalizing s with
  | nil => rfl
  | cons x xs ih => exact (ih _).trans (by simp)
@[simp] theorem State.rxAll_lastRealTime (buf : List RxByte) (s : State) :
    (s.rxAll buf).lastRealTime = s.lastRealTime := by
  induction buf generalizing s with
  | nil => rfl
  | cons x xs ih => exact (ih _).trans (by simp)
@[simp] theorem State.rxAll_lastDevTs (buf : List RxByte) (s : State) :
    (s.rxAll buf).lastDevTs = s.lastDevTs := by
  induction buf generalizing s with
  | nil => rfl
  | cons x xs ih => exact (ih _).trans (by simp)
@[simp] theorem State.rxAll_txSeq (buf : List RxByte) (s : State) :
    (s.rxAll buf).txSeq = s.txSeq := by
  induction buf generalizing s with
  | nil => rfl
  | cons x xs ih => exact (ih _).trans (by simp)
@[simp] theorem State.rxAll_par (buf : List RxByte) (s : State) :
    (s.rxAll buf).par = s.par := by
  induction buf generalizing s with
  | nil => rfl
  | cons x xs ih => exact (ih _).trans (by simp)
@[simp] theorem State.rxAll_inbox (buf : List RxByte) (s : State) :
    (s.rxAll buf).inbox = s.inbox := by
  induction buf generalizing s with
  | nil => rfl
  | cons x xs ih => exact (ih _).trans (by simp)
@[simp] theorem State.rxAll_result (buf : List RxByte) (s : State) :
    (s.rxAll buf).result = s.result := by
  induction buf generalizing s with
  | nil => rfl
  | cons x xs ih => exact (ih _).trans (by simp)

/-! ### Outputs are only appended -/

theorem State.emitIf_outs (c : Bool) (e : Ev) (s : State) :
    (s.emitIf c e).outs = s.outs ++ (if c then [.ev e] else []) := by
  unfold State.emitIf; split <;> simp

theorem State.correctDrift_appends (now : Rat) (s : State) : s.outs <+: (s.correctDrift now).outs := by
  simp only [State.correctDrift]; split <;> simp

theorem State.laterSync_appends (t : Word) (now : Rat) (s : State) : s.outs <+: (s.laterSync t now).outs := by
  refine List.IsPrefix.trans ?_ (State.correctDrift_appends now _)
  simp [State.emitIf_outs]

theorem State.clockSync_appends (t : Word) (now : Rat) (s : State) : s.outs <+: (s.clockSync t now).outs := by
  unfold State.clockSync
  split
  · exact s.laterSync_appends t now
  · simp

theorem State.syncPacket_appends (ws : List Word) (now : Rat) (s : State) :
    s.outs <+: (s.syncPacket ws now).outs := by
  unfold State.syncPacket
  split
  · simp
  · exact s.clockSync_appends _ now

theorem State.control_appends (id : MsgId) (seq : Byte) (ws : List Word) (now : Rat) (s : State) :
    s.outs <+: (s.control id seq ws now).outs := by
  unfold State.control
  split
  · exact List.IsPrefix.trans (by simp) (State.syncPacket_appends ws now _)
  · simp

theorem State.ctrl_appends (p : Payload) (now : Rat) (s : State) : s.outs <+: (s.ctrl p now).outs := by
  unfold State.ctrl
  split
  · simp
  · split
    · exact s.control_appends _ _ _ now
    · simp

theorem State.classify_appends (p : Payload) (now : Rat) (s : State) : s.outs <+: (s.classify p now).outs := by
  unfold State.classify
  split
  · simp
  · exact s.ctrl_appends p now

theorem State.judge_appends (b : Byte) (now : Rat) (s : State) : s.outs <+: (s.judge b now).outs := by
  unfold State.judge
  split
  · simp
  · simp
  · exact List.IsPrefix.trans (by simp) (State.classify_appends _ now _)

theorem State.realtime_appends (ts : Word) (sid : StreamId) (s : State) :
    s.outs <+: (s.realtime ts sid).outs := by
  unfold State.realtime
  split <;> simp [State.emitIf_outs]

end Sys2Proof.Machine
end

