-- ==== Sys2Proof/Laws/Clock.lean ====
section
/-! SUPPORT. What the clock converter's shared operations can do, once each (44_clock.md). -/

namespace Sys2Proof.Machine

/-- What the drift correction can do (44 R235). -/
theorem State.correctDrift_cases (now : Rat) (s : State) :
    (|s.drift now| ≤ 1 ∧ s.correctDrift now = s) ∨
    (1 < |s.drift now| ∧ s.correctDrift now =
      (s.adjust (truncRat (s.drift now * s.par.clockHz))).emit
        (.driftCorrected (s.drift now) (truncRat (s.drift now * s.par.clockHz)))) := by
  by_cases h : 1 < |s.drift now|
  · exact .inr ⟨h, by simp [State.correctDrift, drifted, driftLimit, h]⟩
  · exact .inl ⟨not_lt.1 h, by simp [State.correctDrift, drifted, driftLimit, h]⟩

/-- What SYNC can do (44 R236). -/
theorem State.clockSync_cases (t : Word) (now : Rat) (s : State) :
    (s.synced = false ∧ s.clockSync t now = s.firstSync t now) ∨
    (s.synced = true ∧ s.clockSync t now = s.laterSync t now) := by
  cases h : s.synced <;> simp [State.clockSync, h]

/-- What REALTIME can do (44 R246). -/
theorem State.realtime_cases (ts : Word) (sid : StreamId) (s : State) :
    (s.synced = false ∧ s.realtime ts sid = s.emit (.notSynced ts sid)) ∨
    (s.synced = true ∧ ∃ (ticks : Int) (seconds : Rat), ticks = s.tickAcc.toNat + realtimeDelta s.lastSyncTs ts ∧
      seconds = secondsOf s.par ticks ∧
      s.realtime ts sid = (((s.emitIf (regressed (s.lastRealTimeOf sid) seconds)
        (.timeRegression sid (s.lastRealTimeOf sid) seconds (s.lastDevTsOf sid) ts)).recordTime sid seconds ts).output
          (.rt sid ticks seconds))) := by
  cases h : s.synced with
  | false => exact .inl ⟨rfl, by simp [State.realtime, h]⟩
  | true => exact .inr ⟨rfl, _, _, rfl, rfl, by simp [State.realtime, h]⟩

/-- Reading a stream's time after a write to the per-stream table. -/
theorem State.lastRealTimeOf_recordTime (sid k : StreamId) (seconds : Rat) (ts : Word) (s : State) :
    (s.recordTime sid seconds ts).lastRealTimeOf k = if k = sid then seconds else s.lastRealTimeOf k := by
  simp only [State.lastRealTimeOf, State.recordTime, Vector.getElem_set]
  by_cases h : k = sid
  · simp [h]
  · have : sid.toNat ≠ k.toNat := fun e => h (BitVec.eq_of_toNat_eq e.symm)
    simp [h, this]

/-- Reading a stream's device timestamp after a write to the per-stream table. -/
theorem State.lastDevTsOf_recordTime (sid k : StreamId) (seconds : Rat) (ts : Word) (s : State) :
    (s.recordTime sid seconds ts).lastDevTsOf k = if k = sid then ts else s.lastDevTsOf k := by
  simp only [State.lastDevTsOf, State.recordTime, Vector.getElem_set]
  by_cases h : k = sid
  · simp [h]
  · have : sid.toNat ≠ k.toNat := fun e => h (BitVec.eq_of_toNat_eq e.symm)
    simp [h, this]

/-- Truncation toward zero is the floor of a non-negative rational (00_scope.md R12). -/
theorem truncRat_of_nonneg {q : Rat} (h : 0 ≤ q) : truncRat q = ⌊q⌋ := by
  rw [truncRat, Rat.floor_def', Int.tdiv_eq_ediv_of_nonneg (Rat.num_nonneg.2 h)]

/-- Truncation toward zero is odd. -/
theorem truncRat_neg (q : Rat) : truncRat (-q) = -truncRat q := by
  simp [truncRat]

/-- Truncation moves by less than one. -/
theorem abs_sub_truncRat_lt (q : Rat) : |q - truncRat q| < 1 := by
  have pos : ∀ q : Rat, 0 ≤ q → |q - truncRat q| < 1 := by
    intro q h
    rw [truncRat_of_nonneg h, abs_of_nonneg (sub_nonneg.2 (Int.floor_le q))]
    linarith [Int.lt_floor_add_one q]
  rcases le_total 0 q with h | h
  · exact pos q h
  · have := pos (-q) (by linarith)
    rw [truncRat_neg] at this
    rw [← abs_neg]
    convert this using 2
    push_cast
    ring

end Sys2Proof.Machine
end

