-- ==== Sys2Proof/Laws/Codec.lean ====
section
/-! SUPPORT. Small laws of the checksum, the escape functions and the sequence counter. -/

namespace Sys2Proof.Machine

@[simp] theorem cksum_nil : cksum [] = 0 := rfl

theorem cksum_append (u v : List Byte) : cksum (u ++ v) = v.foldl ckstep (cksum u) := by
  simp [cksum, List.foldl_append]

theorem cksum_snoc (u : List Byte) (b : Byte) : cksum (u ++ [b]) = ckstep (cksum u) b := by
  simp [cksum_append]

/-- The checksum step in the integers of 00_scope.md R12. -/
theorem ckstep_toNat (a b : Byte) :
    (ckstep a b).toNat = (a.toNat * 2 % 256 + a.toNat / 128 + b.toNat) % 256 := by
  have h : (a <<< 1).toNat = a.toNat * 2 % 256 := by simp [BitVec.toNat_shiftLeft, Nat.shiftLeft_eq]
  have h' : (a >>> 7).toNat = a.toNat / 128 := by simp [BitVec.toNat_ushiftRight, Nat.shiftRight_eq_div_pow]
  unfold ckstep rotl8
  rw [BitVec.toNat_add, BitVec.toNat_add, h, h']
  omega

theorem rotl8_injective : Function.Injective rotl8 := by
  have undo : ∀ a : Byte, (rotl8 a >>> 1) + (rotl8 a <<< 7) = a := by decide +kernel
  intro a b h
  rw [← undo a, ← undo b, h]

theorem ckstep_left_injective (b : Byte) : Function.Injective fun a => ckstep a b := by
  intro x y h
  exact rotl8_injective (by simpa [ckstep] using h)

theorem ckstep_right_injective (a : Byte) : Function.Injective (ckstep a) := by
  intro x y h
  simpa [ckstep] using h

theorem foldl_ckstep_injective (v : List Byte) : Function.Injective fun a => v.foldl ckstep a := by
  induction v with
  | nil => exact fun _ _ h => h
  | cons b v ih => exact fun x y h => ckstep_left_injective b (ih h)

@[simp] theorem escape_nil (P : Params) : escape P [] = [] := rfl

@[simp] theorem escape_cons (P : Params) (b : Byte) (p : List Byte) :
    escape P (b :: p) = escapeByte P b ++ escape P p := rfl

theorem unescapeRun_append (P : Params) (u v : List Byte) :
    unescapeRun P (u ++ v) = v.foldl (unescapeStep P) (unescapeRun P u) := by
  simp [unescapeRun, List.foldl_append]

theorem unescapeRun_snoc (P : Params) (u : List Byte) (b : Byte) :
    unescapeRun P (u ++ [b]) = unescapeStep P (unescapeRun P u) b := by
  simp [unescapeRun_append]

/-- Running the loop from (out, false) appends what it yields from ([], false). -/
theorem foldl_unescapeStep_out (P : Params) (v : List Byte) (out : List Byte) (e : Bool) :
    v.foldl (unescapeStep P) (out, e) =
      (out ++ (v.foldl (unescapeStep P) ([], e)).1, (v.foldl (unescapeStep P) ([], e)).2) := by
  induction v generalizing out e with
  | nil => simp
  | cons b v ih =>
    simp only [List.foldl_cons, unescapeStep, List.nil_append]
    split
    · rw [ih, ih [b]]; simp
    · split
      · exact ih out true
      · rw [ih, ih [b]]; simp

/-- One escaped byte, read by the loop with no escape pending, yields that byte. -/
theorem foldl_unescapeStep_escapeByte (P : Params) (b : Byte) (out : List Byte) :
    (escapeByte P b).foldl (unescapeStep P) (out, false) = (out ++ [b], false) := by
  unfold escapeByte
  split
  · simp [unescapeStep]
  · rename_i h
    have hb : b ≠ P.esc := fun he => h (.inl he)
    simp [unescapeStep, hb]

end Sys2Proof.Machine
end

