-- ==== Sys2Proof/Laws/Operands.lean ====
section
/-! SUPPORT. Laws of words, header fields, bit strings and the decoder's arms. -/

namespace Sys2Proof.Machine

/-- A word is made of its four big-endian bytes (00_scope.md R11). -/
theorem be32_bytesBe32 (w : Word) :
    be32 (w.extractLsb' 24 8) (w.extractLsb' 16 8) (w.extractLsb' 8 8) (w.extractLsb' 0 8) = w := by
  unfold be32
  ext i hi
  simp only [BitVec.getElem_append, BitVec.getElem_extractLsb']
  grind

/-- The value of a big-endian word (00_scope.md R11). -/
theorem be32_toNat (b0 b1 b2 b3 : Byte) :
    (be32 b0 b1 b2 b3).toNat = b0.toNat * 2 ^ 24 + b1.toNat * 2 ^ 16 + b2.toNat * 2 ^ 8 + b3.toNat := by
  have := b0.isLt; have := b1.isLt; have := b2.isLt; have := b3.isLt
  unfold be32
  simp only [BitVec.toNat_append]
  rw [← Nat.shiftLeft_add_eq_or_of_lt (by omega), ← Nat.shiftLeft_add_eq_or_of_lt (by omega),
    ← Nat.shiftLeft_add_eq_or_of_lt (by omega)]
  simp only [Nat.shiftLeft_eq]
  omega

theorem bytesBe32_be32 (b0 b1 b2 b3 : Byte) : bytesBe32 (be32 b0 b1 b2 b3) = [b0, b1, b2, b3] := by
  unfold bytesBe32 be32
  simp only [List.cons.injEq, and_true]
  refine ⟨?_, ?_, ?_, ?_⟩ <;> ext i hi <;> simp <;> grind

@[simp] theorem wordsOf_nil : wordsOf [] = [] := rfl

@[simp] theorem wordsOf_cons4 (b0 b1 b2 b3 : Byte) (rest : List Byte) :
    wordsOf (b0 :: b1 :: b2 :: b3 :: rest) = be32 b0 b1 b2 b3 :: wordsOf rest := rfl

/-- Reading back the bytes of words, whatever one to three bytes follow them (30_encoding.md R101). -/
theorem wordsOf_flatMap_append (words : List Word) (tail : List Byte) (h : tail.length < 4) :
    wordsOf (words.flatMap bytesBe32 ++ tail) = words := by
  induction words with
  | nil =>
    match tail, h with
    | [], _ | [_], _ | [_, _], _ | [_, _, _], _ => rfl
  | cons w ws ih =>
    simp only [List.flatMap_cons, bytesBe32, List.cons_append, List.nil_append, wordsOf_cons4, be32_bytesBe32]
    rw [ih]

/-- A byte sequence is the bytes of its words and at most three bytes more. -/
theorem flatMap_wordsOf (body : List Byte) :
    ∃ tail, body = (wordsOf body).flatMap bytesBe32 ++ tail ∧ tail.length < 4 := by
  induction body using wordsOf.induct with
  | case1 b0 b1 b2 b3 rest ih =>
    obtain ⟨tail, h, l⟩ := ih
    refine ⟨tail, ?_, l⟩
    rw [wordsOf_cons4, List.flatMap_cons, bytesBe32_be32, List.append_assoc, ← h]
    rfl
  | case2 body hne =>
    refine ⟨body, ?_, ?_⟩
    · rw [wordsOf.eq_2 _ hne]; rfl
    · match body, hne with
      | [], _ | [_], _ | [_, _], _ | [_, _, _], _ => simp
      | b0 :: b1 :: b2 :: b3 :: r, hne => exact (hne b0 b1 b2 b3 r rfl).elim

/-- Header bit 7 as a comparison (30_encoding.md R97). -/
theorem msb_iff (h : Byte) : h.msb = true ↔ 128 ≤ h.toNat := by
  rw [BitVec.msb_eq_decide]; simp

theorem headerSid_streamHeader : ∀ (sid : StreamId) (nib : BitVec 4), headerSid (streamHeader sid nib) = sid := by
  decide +kernel

theorem headerNibble_streamHeader :
    ∀ (sid : StreamId) (nib : BitVec 4), headerNibble (streamHeader sid nib) = nib := by
  decide +kernel

theorem streamHeader_msb : ∀ (sid : StreamId) (nib : BitVec 4), (streamHeader sid nib).msb = true := by
  decide +kernel

theorem streamHeader_fields : ∀ h : Byte, h.msb = true → streamHeader (headerSid h) (headerNibble h) = h := by
  decide +kernel

end Sys2Proof.Machine

namespace Sys2Proof

open Machine

/-- The decoder on a stream payload. -/
theorem decode_stream (now : Rat) (h : Byte) (rest : List Byte) (hm : h.msb = true) :
    decode now (h :: rest) = .ok (.stream (headerSid h) (headerNibble h) rest) := by
  simp [decode, hm]

/-- The decoder on a control payload with an assigned id. -/
theorem decode_control (now : Rat) (h seq : Byte) (body : List Byte) (id : h.toNat < 19) :
    decode now (h :: seq :: body) = .ok (controlInstr ⟨h.toNat, id⟩ seq (wordsOf body) now) := by
  have hm : h.msb = false := by
    rw [Bool.eq_false_iff]; intro hm; have := (msb_iff h).1 hm; omega
  simp [decode, hm, id]

/-- The decoder on a control payload with an unassigned id. -/
theorem decode_unassigned (now : Rat) (h seq : Byte) (body : List Byte) (hm : h.msb = false) (id : 19 ≤ h.toNat) :
    decode now (h :: seq :: body) = .ok (.ctrlUnassigned (h.extractLsb' 0 7) seq) := by
  simp [decode, hm, show ¬ h.toNat < 19 from by omega]

/-- What the decoder can answer: one of four forms of payload. -/
theorem decode_cases {now : Rat} {p : List Byte} {i : Instr} (hd : decode now p = .ok i) :
    (∃ h rest, p = h :: rest ∧ h.msb = true ∧ i = .stream (headerSid h) (headerNibble h) rest) ∨
    (∃ h seq body, ∃ id : h.toNat < 19, p = h :: seq :: body ∧ h.msb = false ∧
      i = controlInstr ⟨h.toNat, id⟩ seq (wordsOf body) now) ∨
    (∃ h seq body, p = h :: seq :: body ∧ h.msb = false ∧ 19 ≤ h.toNat ∧
      i = .ctrlUnassigned (h.extractLsb' 0 7) seq) := by
  match p with
  | [] => simp [decode] at hd
  | h :: rest =>
    cases hm : h.msb with
    | true => rw [decode_stream now h rest hm] at hd; cases hd; exact .inl ⟨h, rest, rfl, hm, rfl⟩
    | false =>
      match rest with
      | [] => simp [decode, hm] at hd
      | seq :: body =>
        by_cases id : h.toNat < 19
        · rw [decode_control now h seq body id] at hd; cases hd
          exact .inr (.inl ⟨h, seq, body, id, rfl, hm, rfl⟩)
        · rw [decode_unassigned now h seq body hm (by omega)] at hd; cases hd
          exact .inr (.inr ⟨h, seq, body, rfl, hm, by omega, rfl⟩)

/-- The encoding of the control message of an assigned id (30_encoding.md R98). -/
theorem encode_controlInstr (id : MsgId) (seq : Byte) (words : List Word) (now : Rat) :
    encode (controlInstr id seq words now) = some (encodeControl id seq words) := by
  fin_cases id <;> rfl

theorem mnemonic_controlInstr (id : MsgId) (seq : Byte) (words : List Word) (now : Rat) :
    nameTable[id.val]? = some (controlInstr id seq words now).mnemonic := by
  fin_cases id <;> rfl

end Sys2Proof
end

