-- ==== Sys2Proof/Laws/Packet.lean ====
section
/-! SUPPORT. What the packet decoder and frame completion can do, once per shared operation (43_packet_decode.md,
42_scanner.md R158 to R162), and SEND's name resolution. -/

namespace Sys2Proof.Machine

/-- What `control` does: every id but `sync`'s is delivered and nothing else. -/
theorem State.control_of_ne {id : MsgId} (h : id ≠ 13) (seq : Byte) (words : List Word) (now : Rat) (s : State) :
    s.control id seq words now = s.deliver id seq words := by
  simp [State.control, msgidSync, h]

/-- What `control` does for `sync` (43 R199). -/
theorem State.control_sync (seq : Byte) (words : List Word) (now : Rat) (s : State) :
    s.control 13 seq words now = (s.deliver 13 seq words).syncPacket words now := rfl

/-- What CTRL can do (43 R183). -/
theorem State.ctrl_cases (p : Payload) (now : Rat) (s : State) :
    (p.rest = [] ∧ s.ctrl p now = s.emit (.shortControl p.hdr)) ∨
    (∃ seq body, ∃ id : p.hdr.toNat < 19, p.rest = seq :: body ∧
      s.ctrl p now = s.control ⟨p.hdr.toNat, id⟩ seq (wordsOf body) now) ∨
    (∃ seq body, 19 ≤ p.hdr.toNat ∧ p.rest = seq :: body ∧ s.ctrl p now = s.badControl p.hdr seq) := by
  obtain ⟨h, rest⟩ := p
  cases rest with
  | nil => exact .inl ⟨rfl, rfl⟩
  | cons seq body =>
    by_cases id : h.toNat < 19
    · exact .inr (.inl ⟨seq, body, id, rfl, by simp [State.ctrl, id]⟩)
    · exact .inr (.inr ⟨seq, body, not_lt.1 id, rfl, by simp [State.ctrl, id]⟩)

/-- What CLASSIFY can do (43 R180). -/
theorem State.classify_cases (p : Payload) (now : Rat) (s : State) :
    (p.hdr.msb = true ∧ s.classify p now = s.strm p) ∨ (p.hdr.msb = false ∧ s.classify p now = s.ctrl p now) := by
  cases h : p.hdr.msb <;> simp [State.classify, h]

/-- What `sync`'s packet can do to the clock (43 R199). -/
theorem State.syncPacket_cases (words : List Word) (now : Rat) (s : State) :
    (words = [] ∧ s.syncPacket words now = s.emit .syncNoWord) ∨
    (∃ t more, words = t :: more ∧ s.syncPacket words now = s.clockSync t now) := by
  cases words with
  | nil => exact .inl ⟨rfl, rfl⟩
  | cons t more => exact .inr ⟨t, more, rfl, rfl⟩

/-- What the verdict on a frame can be (42 R159 to R161). -/
theorem verdict_cases (v : Bool) (cks : Byte) (pay : List Byte) (b : Byte) :
    (pay = [] ∧ verdict v cks pay b = .empty) ∨
    (pay ≠ [] ∧ v = true ∧ b ≠ 0 ∧ b ≠ cks ∧ verdict v cks pay b = .rejected) ∨
    (∃ h t, pay = h :: t ∧ ¬(v = true ∧ b ≠ 0 ∧ b ≠ cks) ∧ verdict v cks pay b = .accepted ⟨h, t⟩) := by
  cases pay with
  | nil => exact .inl ⟨rfl, rfl⟩
  | cons h t =>
    by_cases c : v = true ∧ b ≠ 0 ∧ b ≠ cks
    · exact .inr (.inl ⟨by simp, c.1, c.2.1, c.2.2, by rw [verdict, if_pos c]⟩)
    · exact .inr (.inr ⟨h, t, rfl, c, by rw [verdict, if_neg c]⟩)

/-- What frame completion can do before the scanner returns to `SeekStart` (42 R159 to R161). -/
theorem State.judge_cases (b : Byte) (now : Rat) (s : State) :
    (s.pay = [] ∧ s.judge b now = s.emit .emptyPayload) ∨
    (s.pay ≠ [] ∧ s.verifyEn = true ∧ b ≠ 0 ∧ b ≠ s.cks ∧
      s.judge b now = s.emit (.badChecksum b s.cks s.pay.length)) ∨
    (∃ h t, s.pay = h :: t ∧ ¬(s.verifyEn = true ∧ b ≠ 0 ∧ b ≠ s.cks) ∧
      s.judge b now = (s.output (.frame (h :: t))).classify ⟨h, t⟩ now) := by
  unfold State.judge
  rcases verdict_cases s.verifyEn s.cks s.pay b with ⟨e, v⟩ | ⟨e, c1, c2, c3, v⟩ | ⟨h, t, e, c, v⟩ <;> rw [v]
  · exact .inl ⟨e, rfl⟩
  · exact .inr (.inl ⟨e, c1, c2, c3, rfl⟩)
  · exact .inr (.inr ⟨h, t, e, c, rfl⟩)

/-- The control message of an assigned id runs the packet decoder's control operation. -/
theorem exec_controlInstr (id : MsgId) (seq : Byte) (words : List Word) (now : Rat) (s : State) :
    exec (controlInstr id seq words now) s = complete .none (s.control id seq words now) := by
  fin_cases id <;> rfl

/-- What resolving a message can answer (41_codec.md R138). -/
theorem resolve_cases (m : MsgRef) :
    (∃ id : MsgId, resolve m = some id ∧
      (m = .id id.val ∨ ∃ nm, m = .name nm ∧ nameTable[id.val]? = some nm)) ∨
    (resolve m = none ∧ ((∃ nm, m = .name nm ∧ nm ∉ nameTable) ∨ ∃ k, m = .id k ∧ 19 ≤ k)) := by
  cases m with
  | id k =>
    by_cases h : k < 19
    · exact .inl ⟨⟨k, h⟩, by simp [resolve, h], .inl rfl⟩
    · exact .inr ⟨by simp [resolve, h], .inr ⟨k, rfl, by omega⟩⟩
  | name nm =>
    cases hi : nameTable.idxOf? nm with
    | none => exact .inr ⟨by simp [resolve, hi], .inl ⟨nm, rfl, by simpa [List.idxOf?_eq_none_iff] using hi⟩⟩
    | some k =>
      obtain ⟨h, he, _⟩ := List.findIdx?_eq_some_iff_getElem.1 hi
      have h19 : k < 19 := h
      refine .inl ⟨⟨k, h19⟩, by simp [resolve, hi, h19], .inr ⟨nm, rfl, ?_⟩⟩
      rw [List.getElem?_eq_getElem h]
      simpa using he

end Sys2Proof.Machine
end

