-- ==== Sys2Proof/Laws/Noninterference.lean ====
section
/-! SUPPORT. The packet decoder and the clock's SYNC neither read nor write the scanner's registers, `verifyEn`, `txSeq`,
the per-stream tables, the pending events and the returned value: they commute with replacing those. -/

namespace Sys2Proof.Machine

/-- `s` with the registers the packet decoder does not use taken from `u`. -/
def State.graft (u s : State) : State :=
  { s with st := u.st, esc := u.esc, cks := u.cks, pay := u.pay, raw := u.raw, verifyEn := u.verifyEn
           lastRealTime := u.lastRealTime, lastDevTs := u.lastDevTs, txSeq := u.txSeq, inbox := u.inbox
           result := u.result }

theorem State.output_graft (u s : State) (o : Output) : (u.graft s).output o = u.graft (s.output o) := rfl

theorem State.emit_graft (u s : State) (e : Ev) : (u.graft s).emit e = u.graft (s.emit e) := rfl

theorem State.emitIf_graft (u s : State) (c : Bool) (e : Ev) : (u.graft s).emitIf c e = u.graft (s.emitIf c e) := by
  cases c <;> rfl

theorem State.correctDrift_graft (u s : State) (now : Rat) :
    (u.graft s).correctDrift now = u.graft (s.correctDrift now) := by
  have e : (u.graft s).drift now = s.drift now := rfl
  simp only [State.correctDrift, e]
  split <;> rfl

theorem State.clockSync_graft (u s : State) (t : Word) (now : Rat) :
    (u.graft s).clockSync t now = u.graft (s.clockSync t now) := by
  rcases s.clockSync_cases t now with ⟨h, e⟩ | ⟨h, e⟩ <;> rw [e]
  · have h' : (u.graft s).synced = false := h
    simp only [State.clockSync, h']
    rfl
  · have h' : (u.graft s).synced = true := h
    simp only [State.clockSync, h', if_true, State.laterSync]
    rw [← State.correctDrift_graft, ← State.emitIf_graft]
    rfl

theorem State.control_graft (u s : State) (id : MsgId) (seq : Byte) (words : List Word) (now : Rat) :
    (u.graft s).control id seq words now = u.graft (s.control id seq words now) := by
  by_cases h : id = 13
  · subst h
    cases words with
    | nil => rfl
    | cons t more => exact State.clockSync_graft u (s.deliver 13 seq (t :: more)) t now
  · rw [State.control_of_ne h, State.control_of_ne h]
    rfl

theorem State.classify_graft (u s : State) (p : Payload) (now : Rat) :
    (u.graft s).classify p now = u.graft (s.classify p now) := by
  rcases s.classify_cases p now with ⟨m, e⟩ | ⟨m, e⟩ <;> rw [e]
  · simp only [State.classify, m, if_true]
    rfl
  · simp only [State.classify, m, Bool.false_eq_true, if_false]
    rcases s.ctrl_cases p now with ⟨r, e⟩ | ⟨seq, body, id, r, e⟩ | ⟨seq, body, id, r, e⟩ <;> rw [e]
    · simp only [State.ctrl, r]
      rfl
    · simp only [State.ctrl, r, id, dif_pos]
      exact State.control_graft u s _ seq _ now
    · simp only [State.ctrl, r, not_lt.2 id, dif_neg, not_false_iff]
      rfl

end Sys2Proof.Machine
end

