-- ==== Sys2Proof/Laws/PerInstr.lean ====
section
/-! SUPPORT. A law of every instruction as syntax, one lemma per constructor: what has an encoding has a first byte. -/

namespace Sys2Proof.Laws.EncodeNonempty

/-- An encoding, where the instruction has one, holds at least one byte (30_encoding.md R97, R109, R117). -/
def Statement (i : Instr) : Prop := encode i ≠ some []

theorem talk (seq : Byte) (words : List Word) : Statement (.talk seq words) := nofun

theorem overMsg (seq : Byte) (words : List Word) : Statement (.overMsg seq words) := nofun

theorem bad (seq : Byte) (words : List Word) : Statement (.bad seq words) := nofun

theorem version (seq : Byte) (words : List Word) : Statement (.version seq words) := nofun

theorem start (seq : Byte) (words : List Word) : Statement (.start seq words) := nofun

theorem stop (seq : Byte) (words : List Word) : Statement (.stop seq words) := nofun

theorem set (seq : Byte) (words : List Word) : Statement (.set seq words) := nofun

theorem dir (seq : Byte) (words : List Word) : Statement (.dir seq words) := nofun

theorem query (seq : Byte) (words : List Word) : Statement (.query seq words) := nofun

theorem info (seq : Byte) (words : List Word) : Statement (.info seq words) := nofun

theorem dig (seq : Byte) (words : List Word) : Statement (.dig seq words) := nofun

theorem wav (seq : Byte) (words : List Word) : Statement (.wav seq words) := nofun

theorem point (seq : Byte) (words : List Word) : Statement (.point seq words) := nofun

theorem sync (seq : Byte) (words : List Word) (now : Rat) : Statement (.sync seq words now) := nofun

theorem avg (seq : Byte) (words : List Word) : Statement (.avg seq words) := nofun

theorem timer (seq : Byte) (words : List Word) : Statement (.timer seq words) := nofun

theorem event (seq : Byte) (words : List Word) : Statement (.event seq words) := nofun

theorem resetevents (seq : Byte) (words : List Word) : Statement (.resetevents seq words) := nofun

theorem trigger (seq : Byte) (words : List Word) : Statement (.trigger seq words) := nofun

theorem ctrlUnassigned (id : BitVec 7) (seq : Byte) : Statement (.ctrlUnassigned id seq) := nofun

theorem stream (sid : StreamId) (nibble : BitVec 4) (rest : List Byte) : Statement (.stream sid nibble rest) := nofun

theorem byteEOP (b : Byte) (now : Rat) : Statement (.byteEOP b now) := nofun

theorem byteESC (b : Byte) (now : Rat) : Statement (.byteESC b now) := nofun

theorem byteDATA (b : Byte) (now : Rat) : Statement (.byteDATA b now) := nofun

theorem reset : Statement (.reset) := nofun

theorem rxbyte (b : Byte) (now : Rat) : Statement (.rxbyte b now) := nofun

theorem setverify (v : Bool) : Statement (.setverify v) := nofun

theorem realtime (ts : Word) (sid : StreamId) : Statement (.realtime ts sid) := nofun

theorem send (m : MsgRef) (value : Option Word) : Statement (.send m value) := nofun

theorem cksum (bytes : List Byte) : Statement (.cksum bytes) := nofun

theorem escape (bytes : List Byte) : Statement (.escape bytes) := nofun

theorem unescape (bytes : List Byte) : Statement (.unescape bytes) := nofun

theorem buildframe (id seq : Byte) (words : List Word) : Statement (.buildframe id seq words) := nofun

theorem txseq : Statement (.txseq) := nofun

theorem scan (buffer : List RxByte) : Statement (.scan buffer) := nofun

theorem classify (p : Payload) (now : Rat) : Statement (.classify p now) := nofun

theorem ctrl (p : Payload) (now : Rat) : Statement (.ctrl p now) := nofun

theorem strm (p : Payload) : Statement (.strm p) := nofun

theorem clockSync (t : Word) (now : Rat) : Statement (.clockSync t now) := nofun

end Sys2Proof.Laws.EncodeNonempty
end

