-- ==== Sys2Proof/Laws/Scanner.lean ====
section
/-! SUPPORT. RXBYTE once per row of the scanner's transition table (42_scanner.md R170), and the feeding of an escaped
payload. -/

namespace Sys2Proof.Machine

theorem byteClass_eop {P : Params} {b : Byte} : byteClass P b = .eop ↔ b = P.eop := by
  unfold byteClass; split <;> [simp_all; split] <;> simp_all

theorem byteClass_esc {P : Params} {b : Byte} : byteClass P b = .esc ↔ b ≠ P.eop ∧ b = P.esc := by
  unfold byteClass; split <;> [simp_all; split] <;> simp_all

theorem byteClass_data {P : Params} {b : Byte} : byteClass P b = .data ↔ b ≠ P.eop ∧ b ≠ P.esc := by
  unfold byteClass; split <;> [simp_all; split] <;> simp_all

variable {s : State} {b : Byte} {now : Rat}

/-- R151. -/
theorem State.rxByte_seek_eop (h : s.st = .seekStart) (hb : b = s.par.eop) :
    s.rxByte b now = s.openFrame.keepRaw b := by
  simp [State.rxByte, State.rxClass, byteClass_eop.2 hb, h]

/-- R152. -/
theorem State.rxByte_seek_other (h : s.st = .seekStart) (hb : b ≠ s.par.eop) :
    s.rxByte b now = s.keepRaw b := by
  by_cases hc : b = s.par.esc
  · simp [State.rxByte, State.rxClass, byteClass_esc.2 ⟨hb, hc⟩, h]
  · simp [State.rxByte, State.rxClass, byteClass_data.2 ⟨hb, hc⟩, h]

/-- R153. -/
theorem State.rxByte_readLead (h : s.st = .readLead) : s.rxByte b now = s.startCollect.keepRaw b := by
  simp [State.rxByte, State.rxClass, h]

/-- R154. -/
theorem State.rxByte_escaped (h : s.st = .collecting) (he : s.esc = true) :
    s.rxByte b now = (s.collectEscaped b).keepRaw b := by
  simp [State.rxByte, State.rxClass, h, he]

/-- R155. -/
theorem State.rxByte_esc (h : s.st = .collecting) (he : s.esc = false) (hb : b ≠ s.par.eop) (hc : b = s.par.esc) :
    s.rxByte b now = (s.collectEsc b).keepRaw b := by
  simp [State.rxByte, State.rxClass, byteClass_esc.2 ⟨hb, hc⟩, h, he]

/-- R156. -/
theorem State.rxByte_close (h : s.st = .collecting) (he : s.esc = false) (hb : b = s.par.eop) :
    s.rxByte b now = s.closePayload.keepRaw b := by
  simp [State.rxByte, State.rxClass, byteClass_eop.2 hb, h, he]

/-- R157. -/
theorem State.rxByte_data (h : s.st = .collecting) (he : s.esc = false) (hb : b ≠ s.par.eop) (hc : b ≠ s.par.esc) :
    s.rxByte b now = (s.collectData b).keepRaw b := by
  simp [State.rxByte, State.rxClass, byteClass_data.2 ⟨hb, hc⟩, h, he]

/-- R158. -/
theorem State.rxByte_readTrail (h : s.st = .readTrail) : s.rxByte b now = (s.completeFrame b now).keepRaw b := by
  simp [State.rxByte, State.rxClass, h]

/-- What RXBYTE can do: one of the eight rows R151 to R158. -/
theorem State.rxByte_cases (s : State) (b : Byte) (now : Rat) :
    (s.st = .seekStart ∧ b = s.par.eop ∧ s.rxByte b now = s.openFrame.keepRaw b) ∨
    (s.st = .seekStart ∧ b ≠ s.par.eop ∧ s.rxByte b now = s.keepRaw b) ∨
    (s.st = .readLead ∧ s.rxByte b now = s.startCollect.keepRaw b) ∨
    (s.st = .collecting ∧ s.esc = true ∧ s.rxByte b now = (s.collectEscaped b).keepRaw b) ∨
    (s.st = .collecting ∧ s.esc = false ∧ b ≠ s.par.eop ∧ b = s.par.esc ∧
      s.rxByte b now = (s.collectEsc b).keepRaw b) ∨
    (s.st = .collecting ∧ s.esc = false ∧ b = s.par.eop ∧ s.rxByte b now = s.closePayload.keepRaw b) ∨
    (s.st = .collecting ∧ s.esc = false ∧ b ≠ s.par.eop ∧ b ≠ s.par.esc ∧
      s.rxByte b now = (s.collectData b).keepRaw b) ∨
    (s.st = .readTrail ∧ s.rxByte b now = (s.completeFrame b now).keepRaw b) := by
  cases h : s.st with
  | seekStart =>
    by_cases hb : b = s.par.eop
    · exact .inl ⟨rfl, hb, State.rxByte_seek_eop h hb⟩
    · exact .inr (.inl ⟨rfl, hb, State.rxByte_seek_other h hb⟩)
  | readLead => exact .inr (.inr (.inl ⟨rfl, State.rxByte_readLead h⟩))
  | readTrail => simp [State.rxByte_readTrail h]
  | collecting =>
    cases he : s.esc with
    | true => simp [State.rxByte_escaped h he]
    | false =>
      by_cases hb : b = s.par.eop
      · exact .inr (.inr (.inr (.inr (.inr (.inl ⟨rfl, rfl, hb, State.rxByte_close h he hb⟩)))))
      · by_cases hc : b = s.par.esc
        · exact .inr (.inr (.inr (.inr (.inl ⟨rfl, rfl, hb, hc, State.rxByte_esc h he hb hc⟩))))
        · exact .inr (.inr (.inr (.inr (.inr (.inr (.inl ⟨rfl, rfl, hb, hc, State.rxByte_data h he hb hc⟩))))))

/-- Outputs are only appended by RXBYTE. -/
theorem State.rxByte_appends (s : State) (b : Byte) (now : Rat) : s.outs <+: (s.rxByte b now).outs := by
  rcases s.rxByte_cases b now with ⟨_, _, e⟩ | ⟨_, _, e⟩ | ⟨_, e⟩ | ⟨_, _, e⟩ | ⟨_, _, _, _, e⟩ | ⟨_, _, _, e⟩ |
    ⟨_, _, _, _, e⟩ | ⟨_, e⟩ <;> rw [e] <;> simp [State.completeFrame, State.judge_appends]

@[simp] theorem State.rxAll_nil (s : State) : s.rxAll [] = s := rfl

@[simp] theorem State.rxAll_cons (x : RxByte) (xs : List RxByte) (s : State) :
    s.rxAll (x :: xs) = (s.rxByte x.b x.now).rxAll xs := rfl

theorem State.rxAll_append (u v : List RxByte) (s : State) : s.rxAll (u ++ v) = (s.rxAll u).rxAll v := by
  simp [State.rxAll, List.foldl_append]

theorem State.rxAll_appends (buf : List RxByte) (s : State) : s.outs <+: (s.rxAll buf).outs := by
  induction buf generalizing s with
  | nil => exact List.prefix_rfl
  | cons x xs ih => exact (s.rxByte_appends x.b x.now).trans (ih _)

end Sys2Proof.Machine
end

