-- ==== Sys2Proof/Laws/Step.lean ====
section
/-! SUPPORT. What a step can do, and what an instruction can do to the scanner: the inversion lemmas that later proofs
cite in place of unfolding `step` and `exec`. -/

namespace Sys2Proof.Machine

/-- What a step can do: wait, or run the next input event. -/
theorem step_cases {s t : State} (h : step s = .next t) :
    (s.inbox = [] ∧ t = s) ∨
    ∃ e rest, s.inbox = e :: rest ∧ exec e.toInstr { s with inbox := rest } = .next t := by
  unfold step State.fetch at h
  cases hi : s.inbox with
  | nil => rw [hi] at h; cases h; exact .inl ⟨rfl, rfl⟩
  | cons e rest => rw [hi] at h; exact .inr ⟨e, rest, rfl, h⟩

/-- What SEND can do (41 R140). -/
theorem execSend_cases {m : MsgRef} {value : Option Word} {s t : State} (h : execSend m value s = .next t) :
    (resolve m = none ∧ t = (s.emit (.unknownMessageName m)).withResult (.sent false)) ∨
    ∃ id, resolve m = some id ∧ t = (s.sendFrame id value).withResult (.sent true) := by
  unfold execSend at h
  cases hr : resolve m with
  | none => rw [hr] at h; cases h; exact .inl ⟨rfl, rfl⟩
  | some id => rw [hr] at h; cases h; exact .inr ⟨id, rfl, rfl⟩

/-- What the TOKEN rows can do: RXBYTE's effect, on a byte of the row's class. -/
theorem exec_token_cases {i : Instr} {b : Byte} {now : Rat} {s t : State}
    (hi : i = .byteEOP b now ∨ i = .byteESC b now ∨ i = .byteDATA b now) (h : exec i s = .next t) :
    t = (s.rxByte b now).withResult .none := by
  rcases hi with rfl | rfl | rfl
  all_goals
    simp only [exec, execByteEOP, execByteESC, execByteDATA] at h
    split at h
    · rename_i hb
      cases h
      rw [State.rxByte, hb]
    · cases h

/-- What an instruction can do to the scanner's registers: leave them, receive a byte, scan a buffer, or reset. -/
theorem exec_scanner_cases {i : Instr} {s t : State} (h : exec i s = .next t) :
    (t.st = s.st ∧ t.esc = s.esc ∧ t.cks = s.cks ∧ t.pay = s.pay ∧ t.raw = s.raw ∧ t.par = s.par) ∨
    (∃ b now, t = (s.rxByte b now).withResult .none) ∨
    (∃ buf r, t = (s.scannerReset.rxAll buf).withResult r) ∨
    t = s.resetRegs.withResult .none := by
  cases i with
  | byteEOP b now => exact .inr (.inl ⟨b, now, exec_token_cases (.inl rfl) h⟩)
  | byteESC b now => exact .inr (.inl ⟨b, now, exec_token_cases (.inr (.inl rfl)) h⟩)
  | byteDATA b now => exact .inr (.inl ⟨b, now, exec_token_cases (.inr (.inr rfl)) h⟩)
  | rxbyte b now => cases h; exact .inr (.inl ⟨b, now, rfl⟩)
  | scan buf => cases h; exact .inr (.inr (.inl ⟨buf, _, rfl⟩))
  | reset => cases h; exact .inr (.inr (.inr rfl))
  | ctrlUnassigned id seq =>
    simp only [exec, execCtrlUnassigned] at h
    split at h
    · cases h; exact .inl ⟨rfl, rfl, rfl, rfl, rfl, rfl⟩
    · cases h
  | send m value =>
    rcases execSend_cases h with ⟨_, rfl⟩ | ⟨id, _, rfl⟩ <;> exact .inl ⟨rfl, rfl, rfl, rfl, rfl, rfl⟩
  | _ => cases h; exact .inl (by simp [State.strm, State.streamPacket])

end Sys2Proof.Machine
end

