-- ==== Sys2Proof/Tests/Slice0.lean ====
section
/-! SUPPORT. The model's own tests. Expected values are the spec's: the encodings of 30_encoding.md, the vectors V<n> of
95_test_vectors.md and the examples of the rules named. The illustrative parameters are those of 95_test_vectors.md. -/

namespace Sys2Proof.Tests

open Sys2Proof Sys2Proof.Machine

/-- The parameters of the vectors: `EOP` 7E, `ESC` 7D, 1 MHz, one sync a second, within 1000 ticks. -/
def vecPar : Params := { eop := 0x7E, esc := 0x7D, clockHz := 1000000, syncPeriod := 1000000, syncTol := 1000 }

/-- The reset state with the parameters of the vectors. -/
def base : State := { State.reset with par := vecPar, lastSyncTs := 0, firstSyncWall := 0 }

/-- A scanner that has received a frame up to the closing delimiter. -/
def trail (pay : List Byte) (cks : Byte) : State := { base with st := .readTrail, pay := pay, cks := cks }

/-- A scanner inside a frame. -/
def inFrame (pay : List Byte) (cks : Byte) (esc : Bool) : State :=
  { base with st := .collecting, pay := pay, cks := cks, esc := esc }

/-- A synced clock converter whose first sync was at host time 100. -/
def clock (last : Word) (acc : Acc) : State :=
  { base with synced := true, firstSyncWall := 100, lastSyncTs := last, tickAcc := acc }

/-- The next state, when there is one. -/
def next? : Host.Outcome State Fault Refusal → Option State
  | .next t => some t
  | .fault _ => none
  | .refused _ => none

/-- A property of the next state of an instruction. -/
def runs (i : Instr) (s : State) (p : State → Bool) : Bool := (next? (exec i s)).any p

/-! ### Ill-formed terms are refused by each check of WellFormed -/

theorem test_illformed_byte_EOP : Instr.wellFormed vecPar (.byteEOP 0x00 0) = false := by decide
theorem test_illformed_byte_ESC : Instr.wellFormed vecPar (.byteESC 0x7E 0) = false := by decide
theorem test_illformed_byte_ESC_equal_params :
    Instr.wellFormed { vecPar with esc := 0x7E } (.byteESC 0x7E 0) = false := by decide
theorem test_illformed_byte_DATA_eop : Instr.wellFormed vecPar (.byteDATA 0x7E 0) = false := by decide
theorem test_illformed_byte_DATA_esc : Instr.wellFormed vecPar (.byteDATA 0x7D 0) = false := by decide
theorem test_illformed_ctrl_unassigned : Instr.wellFormed vecPar (.ctrlUnassigned 18 0) = false := by decide
theorem test_illformed_CTRL : Instr.wellFormed vecPar (.ctrl ⟨0x80, []⟩ 0) = false := by decide
theorem test_illformed_STRM : Instr.wellFormed vecPar (.strm ⟨0x7F, []⟩) = false := by decide
theorem test_illformed_token_refused : next? (exec (.byteDATA 0x7E 0) base) = none := by decide
theorem test_illformed_id_refused : next? (exec (.ctrlUnassigned 18 0) base) = none := by decide

/-! ### Payloads written out from 30_encoding.md R98, R99, R105 (header bytes bit by bit) -/

theorem test_decode_talk : decode 0 [0b00000000, 0xFF] = .ok (.talk 0xFF []) := by decide
theorem test_decode_over : decode 0 [0b00000001, 2, 0x12, 0x34, 0x56, 0x78] = .ok (.overMsg 2 [0x12345678]) := by decide
theorem test_decode_bad : decode 0 [0b00000010, 3] = .ok (.bad 3 []) := by decide
theorem test_decode_version : decode 0 [0b00000011, 1] = .ok (.version 1 []) := by decide
theorem test_decode_start : decode 0 [0b00000100, 0x15, 0, 0, 0, 3] = .ok (.start 21 [3]) := by decide
theorem test_decode_stop : decode 0 [0b00000101, 4, 0xAA] = .ok (.stop 4 []) := by decide
theorem test_decode_set : decode 0 [0b00000110, 0x7E, 0x7D, 0, 0, 0x7E] = .ok (.set 126 [0x7D00007E]) := by decide
theorem test_decode_dir : decode 0 [0b00000111, 5] = .ok (.dir 5 []) := by decide
theorem test_decode_query : decode 0 [0b00001000, 6] = .ok (.query 6 []) := by decide
theorem test_decode_info : decode 0 [0b00001001, 2, 0, 0, 0, 1, 0, 0, 0, 2] = .ok (.info 2 [1, 2]) := by decide
theorem test_decode_dig : decode 0 [0b00001010, 7] = .ok (.dig 7 []) := by decide
theorem test_decode_wav : decode 0 [0b00001011, 8] = .ok (.wav 8 []) := by decide
theorem test_decode_point : decode 0 [0b00001100, 9] = .ok (.point 9 []) := by decide
theorem test_decode_sync : decode 100 [0b00001101, 2, 0, 0, 0x10, 0] = .ok (.sync 2 [0x1000] 100) := by decide +kernel
theorem test_decode_avg : decode 0 [0b00001110, 10] = .ok (.avg 10 []) := by decide
theorem test_decode_timer : decode 0 [0b00001111, 11] = .ok (.timer 11 []) := by decide
theorem test_decode_event : decode 0 [0b00010000, 12] = .ok (.event 12 []) := by decide
theorem test_decode_resetevents : decode 0 [0b00010001, 13] = .ok (.resetevents 13 []) := by decide
theorem test_decode_trigger :
    decode 0 [0b00010010, 9, 0xFF, 0xFF, 0xFF, 0xFF] = .ok (.trigger 9 [0xFFFFFFFF]) := by decide
theorem test_decode_unassigned_first : decode 0 [0b00010011, 1] = .ok (.ctrlUnassigned 19 1) := by decide
theorem test_decode_unassigned_last : decode 0 [0b01111111, 0] = .ok (.ctrlUnassigned 127 0) := by decide
theorem test_decode_stream : decode 0 [0b10100001, 0x23, 0x45] = .ok (.stream 2 1 [0x23, 0x45]) := by decide
theorem test_decode_stream_alone : decode 0 [0b11111111] = .ok (.stream 7 15 []) := by decide
theorem test_decode_byte_EOP : decodeToken vecPar 0b01111110 0 = .byteEOP 0x7E 0 := by decide
theorem test_decode_byte_ESC : decodeToken vecPar 0b01111101 0 = .byteESC 0x7D 0 := by decide
theorem test_decode_byte_DATA : decodeToken vecPar 0b01111111 0 = .byteDATA 0x7F 0 := by decide
theorem test_decode_short_control : decode 0 [0x7F] = .error (.shortControl 0x7F) := by decide
theorem test_encode_set : encode (.set 126 [0x7D00007E]) = some [0x06, 0x7E, 0x7D, 0, 0, 0x7E] := by decide

/-! ### Header-map words through withFetchWord, from reset (30_encoding.md R117) -/

theorem test_word_start : (match step (State.reset.withFetchWord 8 0x04) with
    | .next t => t.outs == [.frame [4, 0, 0, 0, 0, 0], .ctrl 4 0 [0]]
    | _ => false) = true := by decide +kernel
theorem test_word_sync : (match step (State.reset.withFetchWord 8 0x0D) with
    | .next t => t.synced && t.outs == [.frame [13, 0, 0, 0, 0, 0], .ctrl 13 0 [0]]
    | _ => false) = true := by decide +kernel
theorem test_word_unassigned : (match step (State.reset.withFetchWord 8 0x13) with
    | .next t => t.outs == [.frame [19, 0, 0, 0, 0, 0], .ev (.badControlId 19 0)]
    | _ => false) = true := by decide +kernel
theorem test_word_stream : (match step (State.reset.withFetchWord 8 0x93) with
    | .next t => t.outs == [.frame [0x93, 0, 0, 0, 0, 0], .strm 1 [0x30000000]]
    | _ => false) = true := by decide +kernel

/-! ### Codec -/

/-- V21. -/
theorem test_CKSUM_digits : cksum [0x31, 0x32, 0x33, 0x34, 0x35, 0x36, 0x37, 0x38, 0x39] = 0x18 := by decide
/-- V15: the evicted bit re-enters at bit 0. -/
theorem test_CKSUM_rotates : runs (.cksum [0x80, 0x80]) base (·.result == .cksum 0x81) = true := by decide
/-- V30. -/
theorem test_ESCAPE : runs (.escape [0x01, 0x7E, 0x02, 0x7D, 0x03]) base
    (·.result == .bytes [0x01, 0x7D, 0x7E, 0x02, 0x7D, 0x7D, 0x03]) = true := by decide
/-- V33: a pair, then a dangling escape. -/
theorem test_UNESCAPE_dangling : runs (.unescape [0x7D, 0x7D, 0x7D]) base (·.result == .bytes [0x7D]) = true := by
  decide
/-- V31: a non-minimal escape. -/
theorem test_UNESCAPE_any : runs (.unescape [0x7D, 0x15]) base (·.result == .bytes [0x15]) = true := by decide
/-- V37: the checksum covers the escaped bytes. -/
theorem test_BUILDFRAME_escaped : runs (.buildframe 6 0x7E [0x7D00007E]) base (·.result ==
    .bytes [0x7E, 0x00, 0x06, 0x7D, 0x7E, 0x7D, 0x7D, 0x00, 0x00, 0x7D, 0x7E, 0x7E, 0x62]) = true := by decide
/-- V40: a trailing checksum equal to EOP is not escaped. -/
theorem test_BUILDFRAME_checksum_eop : runs (.buildframe 3 0x78 []) base
    (·.result == .bytes [0x7E, 0x00, 0x03, 0x78, 0x7E, 0x7E]) = true := by decide
/-- V42. -/
theorem test_TXSEQ_wraps : runs .txseq { base with txSeq := 255 } (fun t => t.txSeq == 1 && t.result == .seq 1) = true := by
  decide
/-- V1. -/
theorem test_SEND_start : runs (.send (.name "start") (some 3)) { base with txSeq := 20 } (fun t => t.txSeq == 21 &&
    t.outs == [.tx [0x7E, 0x00, 0x04, 0x15, 0x00, 0x00, 0x00, 0x03, 0x7E, 0xD4]] && t.result == .sent true) = true := by
  decide +kernel
/-- V45. -/
theorem test_SEND_unknown : runs (.send (.name "frobnicate") none) { base with txSeq := 7 } (fun t => t.txSeq == 7 &&
    t.outs == [.ev (.unknownMessageName (.name "frobnicate"))] && t.result == .sent false) = true := by decide +kernel

/-! ### Scanner -/

/-- R151's example: the opening delimiter. -/
theorem test_byte_EOP_opens : runs (.byteEOP 0x7E 0) base (fun t => t.st == .readLead && t.raw == [0x7E]) = true := by
  decide
/-- V67: a trailing checksum equal to EOP is the checksum. -/
theorem test_byte_EOP_trailing : runs (.byteEOP 0x7E 0) (trail [0x03, 0x78] 0x7E)
    (fun t => t.st == .seekStart && t.outs == [.frame [0x03, 0x78], .ctrl 3 120 []]) = true := by decide
/-- V54: the escape is folded into the checksum and removed from the payload. -/
theorem test_byte_ESC_folded : runs (.byteESC 0x7D 0) (inFrame [0x04] 0x04 false)
    (fun t => t.esc && t.cks == 0x85 && t.pay == [0x04]) = true := by decide
/-- R154: a second escape is payload. -/
theorem test_byte_ESC_literal : runs (.byteESC 0x7D 0) (inFrame [] 0x7D true)
    (fun t => !t.esc && t.cks == 0x77 && t.pay == [0x7D]) = true := by decide
/-- V53's last byte. -/
theorem test_byte_DATA_collects : runs (.byteDATA 0x00 0) (inFrame [0x04, 0x15] 0x1D false)
    (fun t => t.cks == 0x3A && t.pay == [0x04, 0x15, 0x00]) = true := by decide
/-- V51. -/
theorem test_RXBYTE_rejects : runs (.rxbyte 0xD5 0) (trail [0x04, 0x15, 0, 0, 0, 0x03] 0xD4)
    (fun t => t.st == .seekStart && t.lastSeq == 0 && t.outs == [.ev (.badChecksum 0xD5 0xD4 6)]) = true := by decide
/-- V52: a received 0 is unchecked. -/
theorem test_RXBYTE_unchecked : runs (.rxbyte 0x00 0) (trail [0x04, 0x15, 0, 0, 0, 0x03] 0xD4) (fun t =>
    t.lastSeq == 21 && t.outs == [.frame [0x04, 0x15, 0, 0, 0, 0x03], .ctrl 4 21 [3]]) = true := by decide
/-- V70: verification off in the middle of a frame. -/
theorem test_SETVERIFY_midframe : runs (.setverify false) (trail [0x04, 0x15] 0x1D)
    (fun t => runs (.rxbyte 0x99 0) t (·.outs == [.frame [0x04, 0x15], .ctrl 4 21 []])) = true := by decide
/-- R290: outputs are not withdrawn, registers are. -/
theorem test_RESET : runs .reset { clock 5 9 with st := .collecting, verifyEn := false, outs := [.ev .syncNoWord] }
    (fun t => t.st == .seekStart && t.verifyEn && !t.synced && t.tickAcc == 0 && t.outs == [.ev .syncNoWord]) = true := by
  decide
/-- V72: discarded bytes are not in the remainder. -/
theorem test_SCAN_remainder : runs (.scan [⟨0xAA, 0⟩, ⟨0xBB, 0⟩, ⟨0x7E, 0⟩]) base
    (fun t => t.result == .scanned [] [0x7E] && t.st == .readLead) = true := by decide
/-- V71's frame, its payload shortened to V56's. -/
theorem test_SCAN_frame : runs (.scan [⟨0x7E, 0⟩, ⟨0, 0⟩, ⟨0x04, 0⟩, ⟨0x15, 0⟩, ⟨0x7E, 0⟩, ⟨0x1D, 0⟩]) base
    (fun t => t.result == .scanned [[0x04, 0x15]] [] && t.st == .seekStart) = true := by decide

/-! ### Packet decoder -/

/-- V86. -/
theorem test_CLASSIFY_stream : runs (.classify ⟨0x80, []⟩ 0) base (·.outs == [.strm 0 []]) = true := by decide
/-- V79: three trailing bytes dropped. -/
theorem test_CTRL_truncates : runs (.ctrl ⟨0x04, [0x15, 0xAA, 0xBB, 0xCC]⟩ 0) base
    (fun t => t.lastSeq == 21 && t.outs == [.ctrl 4 21 []]) = true := by decide
/-- V74: the length is tested before the id. -/
theorem test_CTRL_short : runs (.ctrl ⟨0x7F, []⟩ 0) base
    (fun t => t.lastSeq == 0 && t.outs == [.ev (.shortControl 0x7F)]) = true := by decide
/-- V76. -/
theorem test_ctrl_unassigned : runs (.ctrlUnassigned 127 0) base (·.outs == [.ev (.badControlId 127 0)]) = true := by
  decide
/-- V85. -/
theorem test_sync_first : runs (.sync 2 [0x1000] 100) base (fun t => t.synced && t.lastSyncTs == 0x1000 &&
    t.firstSyncWall == 100 && t.lastSeq == 2 && t.outs == [.ctrl 13 2 [0x1000]]) = true := by decide +kernel
/-- V83. -/
theorem test_sync_no_word : runs (.sync 5 [] 100) base
    (fun t => !t.synced && t.outs == [.ctrl 13 5 [], .ev .syncNoWord]) = true := by decide +kernel
/-- P3 step 7. -/
theorem test_stream_samples :
    runs (.stream 2 1 [0x23, 0x45, 0x67, 0x8A, 0xBC, 0xDE, 0xF0, 0x12, 0x34, 0x56, 0x78, 0x9A]) base
      (·.outs == [.strm 2 [0x12345678, 0xABC, 0xDEF, 0x012, 0x3456789A]]) = true := by decide +kernel
/-- V94: eight bits left over. -/
theorem test_STRM_leftover :
    runs (.strm ⟨0xBF, [0x11, 0x22, 0x33, 0x44, 0x55, 0x66, 0x77, 0x88, 0x99, 0xAA]⟩) base
      (·.outs == [.strm 3 [0xF1122334, 0x455, 0x66778899]]) = true := by decide +kernel
/-- V91: a wide sample that does not fit is dropped. -/
theorem test_STRM_partial : runs (.strm ⟨0x8F, [0x11, 0x22, 0x33, 0x44, 0x55, 0x66, 0x77]⟩) base
    (·.outs == [.strm 0 [0xF1122334]]) = true := by decide +kernel

/-! ### Clock converter -/

/-- V108: the rollover arm is one tick short. -/
theorem test_SYNC_rollover : runs (.clockSync 0x000F4080 102) (clock 0xFFFFFE40 1000000)
    (fun t => t.tickAcc == 1999999 && t.lastSyncTs == 0x000F4080 && t.outs == []) = true := by decide +kernel
/-- V116: the host clock went back, the accumulator is clamped. -/
theorem test_SYNC_clamped : runs (.clockSync 1000000 90) (clock 0 0)
    (fun t => t.tickAcc == 0 && t.outs == [.ev (.driftCorrected 11 11000000)]) = true := by decide +kernel
/-- V119: case 2. -/
theorem test_REALTIME_rolled_over : runs (.realtime 0x00000100 0) (clock 0xFFFFFF00 5000000)
    (·.outs == [.rt 0 5000511 (5000511 / 1000000)]) = true := by decide +kernel
/-- V124: case 3 at its boundary, compared with the table's reset value. -/
theorem test_REALTIME_boundary : runs (.realtime 0 0) (clock 0x80000000 0)
    (·.outs == [.ev (.timeRegression 0 0 (-2147483648 / 1000000) 0 0), .rt 0 (-2147483648) (-2147483648 / 1000000)]) =
    true := by decide +kernel

/-! ### Witnesses: concrete states and operands that meet the hypotheses of each statement, clause by clause -/

/-- A synced clock converter whose next input is the word of a sync packet. -/
def syncTrail (w : List Byte) (cks : Byte) (last : Word) (acc : Acc) : State :=
  { clock last acc with st := .readTrail, pay := [13, 2] ++ w, cks := cks, inbox := [.rxbyte 0 102] }

theorem witness_vecPar : vecPar.WF ∧ base.par.WF := by decide

theorem witness_EveryHeaderByteIsClassified :
    (0x00#8).toNat < 0x13 ∧ (0x12#8).toNat < 0x13 ∧ 0x13 ≤ (0x13#8).toNat ∧ (0x13#8).toNat ≤ 0x7F ∧
    0x13 ≤ (0x7F#8).toNat ∧ (0x7F#8).toNat ≤ 0x7F ∧ 0x80 ≤ (0x80#8).toNat ∧ 0x80 ≤ (0xFF#8).toNat := by decide

theorem witness_DecodeInvertsEncode_control : Instr.wellFormed vecPar (.sync 2 [0x1000] 100) = true ∧
    encode (.sync 2 [0x1000] 100) = some [13, 2, 0, 0, 0x10, 0] ∧
    atTime 100 (.sync 2 [0x1000] 100) = .sync 2 [0x1000] 100 ∧ isToken (.sync 2 [0x1000] 100) = false := by
  decide +kernel

theorem witness_DecodeInvertsEncode_unassigned : Instr.wellFormed vecPar (.ctrlUnassigned 19 1) = true ∧
    Instr.wellFormed vecPar (.ctrlUnassigned 127 1) = true ∧ encode (.ctrlUnassigned 19 1) = some [19, 1] ∧
    encode (.ctrlUnassigned 127 1) = some [127, 1] ∧ atTime 0 (.ctrlUnassigned 19 1) = .ctrlUnassigned 19 1 := by decide

theorem witness_DecodeInvertsEncode_token : Instr.wellFormed vecPar (.byteESC 0x7D 0) = true ∧
    encode (.byteESC 0x7D 0) = some [0x7D] ∧ atTime 0 (.byteESC 0x7D 0) = .byteESC 0x7D 0 ∧
    isToken (.byteESC 0x7D 0) = true := by decide

theorem witness_EncodeInvertsDecodeUpToDroppedBytes :
    decode 0 [0x80] = .ok (.stream 0 0 []) ∧ decode 0 [0x12, 9, 1, 2, 3] = .ok (.trigger 9 []) ∧
    decode 0 [0x13, 1, 5] = .ok (.ctrlUnassigned 19 1) ∧ decode 0 [0x7F, 0] = .ok (.ctrlUnassigned 127 0) := by decide

theorem witness_EveryByteIsOfOneClass :
    vecPar.WF ∧ (0x7E : Byte) = vecPar.eop ∧ (0x7D : Byte) = vecPar.esc ∧
    (0x7F : Byte) ≠ vecPar.eop ∧ (0x7F : Byte) ≠ vecPar.esc := by decide

theorem witness_StepRunsTheNextInputEvent :
    { base with inbox := [.setverify false, .reset] }.inbox = .setverify false :: [.reset] ∧ base.inbox = [] := ⟨rfl, rfl⟩

theorem witness_RxbyteRunsTheTokenOfItsByte :
    (Instr.byteEOP 0x7E 0).wellFormed base.par = true ∧ (Instr.byteESC 0x7D 0).wellFormed base.par = true ∧
    (Instr.byteDATA 0x7F 0).wellFormed base.par = true ∧ isToken (.byteDATA 0x7D 0) = true ∧
    (Instr.byteDATA 0x7D 0).wellFormed base.par = false := by decide

theorem witness_AcceptedFrameRunsItsDecodedPacket : (trail [0x13, 1] 0x27).st = .readTrail ∧
    ((trail [0x13, 1] 0x27).verifyEn = true → (0x27 : Byte) = 0 ∨ (0x27 : Byte) = (trail [0x13, 1] 0x27).cks) ∧
    decode 0 (trail [0x13, 1] 0x27).pay = .ok (.ctrlUnassigned 19 1) := by decide

theorem witness_PlacedTableWordRunsNext :
    decodeTableWord 8 0x00 = some (.talk 0 [0]) ∧ decodeTableWord 8 0x12 = some (.trigger 0 [0]) ∧
    decodeTableWord 8 0x13 = some (.ctrlUnassigned 19 0) ∧ decodeTableWord 8 0x7F = some (.ctrlUnassigned 127 0) ∧
    decodeTableWord 8 0x80 = some (.stream 0 0 [0, 0, 0, 0, 0]) ∧
    decodeTableWord 8 0xFF = some (.stream 7 15 [0, 0, 0, 0, 0]) := by decide

theorem witness_NoStepStops : { base with inbox := [.reset] }.inbox = .reset :: [] ∧
    Instr.wellFormed base.par (.ctrlUnassigned 19 0) = true ∧
    Instr.wellFormed base.par (.ctrl ⟨0x7F, []⟩ 0) = true ∧ Instr.wellFormed base.par (.strm ⟨0x80, []⟩) = true := by decide

theorem witness_VerifyOptionIsSampledAtCompletion :
    (inFrame [4] 4 false).st ≠ .readTrail ∧ exec (.rxbyte 1 0) (inFrame [4] 4 false) =
      .next ((inFrame [4] 4 false).rxByte 1 0 |>.withResult .none) ∧
    exec (.setverify false) (inFrame [4] 4 false) = .next ((inFrame [4] 4 false).setVerify false |>.withResult .none) ∧
    ((inFrame [4] 4 false).setVerify false |>.withResult .none |>.rxAll [⟨0x7E, 0⟩]).st = .readTrail ∧
    ((inFrame [4] 4 false).setVerify false |>.withResult .none |>.rxAll [⟨0x7E, 0⟩]).pay ≠ [] ∧
    (0x99 : Byte) ≠ 0 ∧ (0x99 : Byte) ≠ ((inFrame [4] 4 false).setVerify true |>.rxAll [⟨0x7E, 0⟩]).cks :=
  ⟨by decide, rfl, rfl, by decide, by decide, by decide, by decide⟩

theorem witness_CksumDetectsEverySingleBitFlip : 0 < 8 ∧ 7 < 8 := by decide

theorem witness_EscapeIsTheTwoOrderedReplacements : base.par.WF ∧ base.par.eop ∈ [(0x01 : Byte), 0x7E] := by decide

theorem witness_UnescapeReadsByteByByte : (0x00 : Byte) ≠ vecPar.esc ∧ (0x7E : Byte) ≠ vecPar.esc := by decide

theorem witness_TxseqCyclesThrough1To255 : 0 < 19 ∧ 18 < 19 := by decide

theorem witness_SendResolvesAndTransmits :
    nameTable[0]? = some "talk" ∧ nameTable[18]? = some "trigger" ∧ MsgRef.id 18 = .id 18 ∧ 18 < 19 ∧
    "frobnicate" ∉ nameTable ∧ 18 < 19 := by decide +kernel

theorem witness_ScannerTransitionsBeforeTheTrailingByte :
    (base.st = .seekStart ∧ (0x7E : Byte) = base.par.eop) ∧ (base.st = .seekStart ∧ (0x7D : Byte) ≠ base.par.eop) ∧
    { base with st := .readLead }.st = .readLead ∧
    ((inFrame [] 0x7D true).st = .collecting ∧ (inFrame [] 0x7D true).esc = true) ∧
    ((inFrame [] 0 false).st = .collecting ∧ (inFrame [] 0 false).esc = false ∧ (0x7D : Byte) ≠ base.par.eop ∧
      (0x7D : Byte) = base.par.esc ∧ (0x7F : Byte) ≠ base.par.eop ∧ (0x7F : Byte) ≠ base.par.esc) := by decide

theorem witness_FrameCompletionHasThreeArms :
    (trail [] 0).st = .readTrail ∧ (trail [] 0).pay = [] ∧
    ((trail [4] 4).pay ≠ [] ∧ (trail [4] 4).verifyEn = true ∧ (0x99 : Byte) ≠ 0 ∧ (0x99 : Byte) ≠ (trail [4] 4).cks) ∧
    ((trail [4] 4).pay = 4 :: [] ∧ ¬((trail [4] 4).verifyEn = true ∧ (0 : Byte) ≠ 0 ∧ (0 : Byte) ≠ (trail [4] 4).cks) ∧
      ¬((trail [4] 4).verifyEn = true ∧ (4 : Byte) ≠ 0 ∧ (4 : Byte) ≠ (trail [4] 4).cks)) := by decide

theorem witness_EscapeFlagOnlyWhileCollecting :
    ((inFrame [] 0x7D true).esc = true → (inFrame [] 0x7D true).st = .collecting) ∧
    ∃ t, step { inFrame [] 0x7D true with inbox := [.rxbyte 0x7E 0] } = .next t := ⟨by decide, _, rfl⟩

/-- A frame in progress with its wire bytes `7E 00 04`, and the next byte the escape. -/
def midFrame : State := { inFrame [4] 4 false with raw := [0x7E, 0x00, 0x04], inbox := [.rxbyte 0x7D 0] }

theorem witness_ScannerRegistersDescribeTheWireBytes : midFrame.WireInv ∧
    (∃ t, exec (.rxbyte 0x7D 0) midFrame = .next t) ∧ ∃ t, step midFrame = .next t := by
  refine ⟨⟨0x00, [0x04], rfl, rfl, by decide, ?_⟩, ⟨_, rfl⟩, ⟨_, rfl⟩⟩
  intro u v h
  match u, h with
  | [], h => exact absurd (List.cons.inj h).1 (by decide)
  | [x], h => exact absurd (List.cons.inj h).2 (by simp)
  | x :: y :: u, h => exact absurd (List.cons.inj h).2 (by simp)

theorem witness_ScannerStateIsAFunctionOfRaw : { base with inbox := [.rxbyte 0x7E 0] }.ReplaysRaw ∧
    (∃ t, exec (.rxbyte 0x7E 0) base = .next t) ∧ ∃ t, step { base with inbox := [.rxbyte 0x7E 0] } = .next t := by
  refine ⟨fun buf h => ?_, ⟨_, rfl⟩, ⟨_, rfl⟩⟩
  cases buf with
  | nil => exact ⟨⟨rfl, rfl, rfl, rfl, rfl⟩, rfl⟩
  | cons x xs => cases h

theorem witness_ScanIsRestartable : ∃ (u v : State), exec (.scan [⟨0x00, 0⟩, ⟨0x7E, 0⟩]) base = .next u ∧
    u.result = .scanned [] [0x7E] ∧ [(⟨0x7E, 5⟩ : RxByte)].map (·.b) = [0x7E] ∧
    exec (.scan ([⟨0x7E, 5⟩] ++ [⟨0x00, 0⟩])) u = .next v ∧ v.result = .scanned [] [0x7E, 0x00] :=
  ⟨_, _, rfl, by decide, rfl, rfl, by decide⟩

theorem witness_ScannerRecoversEveryEscapedPayload : base.st = .seekStart ∧ base.par.WF := by decide

theorem witness_SentFrameIsReceivedBack : base.st = .seekStart ∧ base.par.WF ∧ resolve (.name "start") = some 4 ∧
    (4 : MsgId) ≠ 13 ∧ resolve (.id 13) = some 13 := by decide +kernel

theorem witness_ResyncSequenceReachesSeekStart :
    base.par.WF ∧ (0x11 : Byte) ≠ base.par.eop ∧ (0x11 : Byte) ≠ base.par.esc := by decide

theorem witness_UnassignedIdIsReported : 19 ≤ (19#7).toNat ∧ 19 ≤ (127#7).toNat ∧ 19 ≤ (19#8).toNat ∧
    (127#8).toNat ≤ 127 := by decide

theorem witness_CtrlReadsBigEndianWords : (0#8).toNat < 19 ∧ (18#8).toNat < 19 ∧ (18#8) ≠ 13 ∧ 19 ≤ (19#8).toNat := by
  decide

theorem witness_ClassifySelectsOnBit7 : 128 ≤ (⟨0x80, []⟩ : Payload).hdr.toNat ∧ (⟨0x7F, []⟩ : Payload).hdr.toNat < 128 := by
  decide

theorem witness_StreamBitsAreMsbFirst : 0 < 4 ∧ 3 < 4 ∧ [(0x11 : Byte)][7 / 8]? = some 0x11 := by decide

theorem witness_StreamSamplesHaveTheTableShapes : 1 ≤ 1 ∧ 1 < 5 ∧ 1 ≤ 4 ∧ 4 < 5 ∧ 5 ≤ 5 ∧ 5 < 9 ∧ 8 < 9 ∧ 9 ≤ 9 := by
  decide

/-- V93's payload: one 12-bit sample between the two wide ones, no padding. -/
theorem witness_StreamDecodeInvertsTheTransmitter :
    valueStream 0xF [0x11, 0x22, 0x33, 0x44, 0x55, 0x66, 0x77, 0x88, 0x99] =
      bitsMsb (0xF1122334 : Word) ++ [(0x455 : BitVec 12)].flatMap bitsMsb ++ bitsMsb (0x66778899 : Word) ++ [] ∧
    ([] : List Bool).length < 8 := by decide +kernel

/-- V92's payload: no 12-bit sample, four bits of padding. -/
theorem witness_StreamDecodeInvertsTheTransmitter_padded :
    valueStream 0xF [0x11, 0x22, 0x33, 0x44, 0x55, 0x66, 0x77, 0x88] =
      bitsMsb (0xF1122334 : Word) ++ ([] : List (BitVec 12)).flatMap bitsMsb ++ bitsMsb (0x45566778 : Word) ++
        [true, false, false, false] ∧ [true, false, false, false].length < 8 := by decide +kernel

theorem witness_FirstSyncSeedsTheClock : base.synced = false := rfl

/-- V113 (a correction), V114 (a drift of exactly one second) and a rollover. -/
theorem witness_LaterSyncAccumulatesChecksAndCorrects : (clock 0 0).synced = true ∧
    |(1000000 : Rat) / 1000000 - (103.5 - 100)| > 1 ∧ ¬|(1000000 : Rat) / 1000000 - (102 - 100)| > 1 ∧
    ¬(clock 0xFFFFFFFF 0).lastSyncTs.toNat ≤ (0 : Word).toNat := by decide +kernel

/-- V113. -/
theorem witness_DriftCorrectionMeetsTheWallClock : (clock 0 0).synced = true ∧ 0 < (clock 0 0).par.clockHz ∧
    0 ≤ 103.5 - (clock 0 0).firstSyncWall ∧
    (103.5 - (clock 0 0).firstSyncWall) * (clock 0 0).par.clockHz < 2 ^ 64 - 1 ∧
    ∃ u, exec (.clockSync 1000000 103.5) (clock 0 0) = .next u ∧
      ∃ d a, .ev (.driftCorrected d a) ∈ newOutputs (clock 0 0) u :=
  ⟨rfl, by decide, by decide +kernel, by decide +kernel, _, rfl, -5 / 2, -2500000, by decide +kernel⟩

/-- V107. -/
theorem witness_AccumulatorNeverFallsWithoutCorrection : (clock 0xFFF0BC00 0).synced = true ∧
    (clock 0xFFF0BC00 0).tickAcc.toNat + 2 ^ 32 ≤ 2 ^ 64 ∧
    ∃ u, exec (.clockSync 0xFFFFFE40 101) (clock 0xFFF0BC00 0) = .next u ∧
      ∀ d a, .ev (.driftCorrected d a) ∉ newOutputs (clock 0xFFF0BC00 0) u := by
  refine ⟨rfl, by decide, _, rfl, fun d a => ?_⟩
  have h : newOutputs (clock 0xFFF0BC00 0) (((clock 0xFFF0BC00 0).clockSync 0xFFFFFE40 101).withResult .none) = [] := by
    decide +kernel
  rw [h]
  exact List.not_mem_nil

/-- The four cases of R241 to R244 at the boundaries of R247. -/
theorem witness_RealtimeFollowsItsFourCases : (clock 0 0).synced = true ∧
    ((0x80000000 : Word).toNat : Int) - (0 : Word).toNat ≤ 2 ^ 31 ∧
    ((0x80000001 : Word).toNat : Int) - (0 : Word).toNat > 2 ^ 31 ∧
    ((0x00001000 : Word).toNat : Int) - (0x00000F00 : Word).toNat ≤ 2 ^ 31 := by decide

theorem witness_RealtimeBeforeSyncOnlyReports : base.synced = false := rfl

theorem witness_EachRolloverLosesOneTick :
    (0 : Word).toNat ≤ (0xFFFFFFFF : Word).toNat ∧ (0 : Word).toNat < (0xFFFFFFFF : Word).toNat ∧
    (0xFFFFFFFF : Word).toNat - (0 : Word).toNat > 2 ^ 31 ∧ (0x80000000 : Word).toNat - (0 : Word).toNat ≤ 2 ^ 31 := by decide

theorem witness_OutputsAreOnlyAppended : (∃ t, exec (.realtime 0 0) base = .next t) ∧
    ∃ t, step { base with inbox := [.realtime 0 0] } = .next t := ⟨⟨_, rfl⟩, ⟨_, rfl⟩⟩

theorem witness_ParametersAndPendingEventsAreKept : (∃ t, exec .reset base = .next t) ∧
    ∃ t, step { base with inbox := [.reset, .reset] } = .next t := ⟨⟨_, rfl⟩, ⟨_, rfl⟩⟩

theorem witness_RegistersHaveTheirOwnWriters :
    (∃ t, exec (.setverify false) base = .next t ∧ t.verifyEn ≠ base.verifyEn) ∧
    (∃ t, exec .txseq base = .next t ∧ t.txSeq ≠ base.txSeq) ∧
    (∃ t, exec (.rxbyte 0x7E 0) base = .next t ∧ ¬base.ScannerSame t) ∧
    ∃ t, step { base with inbox := [.rxbyte 0x7E 0] } = .next t ∧ ¬{ base with inbox := [.rxbyte 0x7E 0] }.ScannerSame t :=
  ⟨⟨_, rfl, by decide⟩, ⟨_, rfl, by decide⟩, ⟨_, rfl, by decide⟩, ⟨_, rfl, by decide⟩⟩

/-- A step that performs a later sync, one that converts a timestamp, one that resets. -/
theorem witness_ClockChangesOnlyBySyncRealtimeReset :
    (∃ t, step (syncTrail [0, 0, 0x10, 0] 0 0 0) = .next t ∧ t.tickAcc ≠ (syncTrail [0, 0, 0x10, 0] 0 0 0).tickAcc) ∧
    (∃ t, step { clock 0 0 with inbox := [.realtime 5 0] } = .next t ∧ t.lastDevTs ≠ (clock 0 0).lastDevTs) ∧
    ∃ t, step { clock 0 0 with inbox := [.reset] } = .next t ∧ t.synced = false :=
  ⟨⟨_, rfl, by decide +kernel⟩, ⟨_, rfl, by decide +kernel⟩, ⟨_, rfl, rfl⟩⟩

theorem witness_SyncedIsClearedOnlyByReset :
    (∃ t, step { clock 0 0 with inbox := [.reset] } = .next t ∧ (clock 0 0).synced = true) ∧
    ∃ t, step { syncTrail [0, 0, 0x10, 0] 0 0 0 with synced := false } = .next t ∧ t.synced = true :=
  ⟨⟨_, rfl, rfl⟩, ⟨_, rfl, by decide +kernel⟩⟩

theorem witness_LastSeqFollowsTheControlPackets :
    (∃ t, step { trail [4, 21] 0x1D with inbox := [.rxbyte 0x1D 0] } = .next t ∧
      .ctrl 4 21 [] ∈ newOutputs (trail [4, 21] 0x1D) t) ∧
    (∃ t, step { base with inbox := [.setverify true] } = .next t ∧ newOutputs base t = []) ∧
    ∀ rest, { base with inbox := [.setverify true] }.inbox ≠ .reset :: rest :=
  ⟨⟨_, rfl, by decide⟩, ⟨_, rfl, rfl⟩, fun _ h => nomatch h⟩

theorem witness_HostTimeIsReadOnlyBySync :
    ¬((trail [13, 5] 0x1F).st = .readTrail ∧ IsSyncWithWord (trail [13, 5] 0x1F).pay) ∧
    (trail [13, 2, 0, 0, 0x10, 0] 0xE1).verifyEn = true ∧ (0xE0 : Byte) ≠ 0 ∧
    (0xE0 : Byte) ≠ (trail [13, 2, 0, 0, 0x10, 0] 0xE1).cks := by
  refine ⟨?_, rfl, by decide, by decide⟩
  rintro ⟨_, seq, b0, b1, b2, b3, more, h⟩
  cases h

theorem witness_TransmitAndReceiveShareNoState :
    (∃ t, exec (.rxbyte 0 0) (trail [4, 21] 0x1D) = .next t) ∧ (∃ t, exec (.realtime 0 0) (clock 0 0) = .next t) ∧
    (∃ t, exec (.clockSync 0 0) (clock 0 0) = .next t) ∧
    ∃ t t', base.txSeq = (clock 0 0).txSeq ∧ base.par = (clock 0 0).par ∧
      exec (.send (.id 4) none) base = .next t ∧ exec (.send (.id 4) none) (clock 0 0) = .next t' :=
  ⟨⟨_, rfl⟩, ⟨_, rfl⟩, ⟨_, rfl⟩, _, _, rfl, rfl, rfl, rfl⟩

end Sys2Proof.Tests
end

section
/-! PROOFS. What the fetch and the step do on each form of the input queue, and the obligation that rests on it. -/

namespace Sys2Proof.Machine

theorem State.fetch_of_inbox_nil {s : State} (h : s.inbox = []) : s.fetch = none := by
  simp only [State.fetch, h]

theorem State.fetch_of_inbox_cons {s : State} {e : Event} {rest : List Event} (h : s.inbox = e :: rest) :
    s.fetch = some (e.toInstr, { s with inbox := rest }) := by
  simp only [State.fetch, h]

theorem step_of_inbox_nil {s : State} (h : s.inbox = []) : step s = .next s := by
  simp only [step, State.fetch_of_inbox_nil h]

theorem step_of_inbox_cons {s : State} {e : Event} {rest : List Event} (h : s.inbox = e :: rest) :
    step s = exec e.toInstr { s with inbox := rest } := by
  simp only [step, State.fetch_of_inbox_cons h]

/-- Settles O6, by the two forms of the input queue. -/
theorem stepRunsTheNextInputEvent : Obligations.StepRunsTheNextInputEvent :=
  ⟨fun _ _ _ presented => step_of_inbox_cons presented, fun _ waiting => step_of_inbox_nil waiting⟩

end Sys2Proof.Machine
end

section
/-! PROOFS. 10_state.md: the reset column of R20, who writes which register, that outputs are only appended, and when
the host's clock reading and the flag `synced` come into play (R28, R39). -/

namespace Sys2Proof.Machine

/-! ### The reset state -/

/-- The parameters of the block at reset meet what 00_scope.md R7 and R8 require: `ESC` is `EOP` plus a gap of 1 to
255, which is not 0 modulo 256. -/
theorem config_params_wf : Config.params.WF := by
  refine ⟨fun same => ?_, Nat.succ_pos _⟩
  have gap_lt := Config.escGap.isLt
  have gap_zero : BitVec.ofNat 8 (Config.escGap.val + 1) = 0#8 := by
    simpa [Config.params] using same
  have gap_mod := congrArg BitVec.toNat gap_zero
  simp only [BitVec.toNat_ofNat] at gap_mod
  omega

/-- Settles O11: each register by its definition, the parameters by `config_params_wf`. -/
theorem resetStateValues : Obligations.ResetStateValues :=
  ⟨rfl, rfl, rfl, rfl, rfl, rfl, rfl, rfl, rfl, rfl,
    fun sid => by simp [State.lastRealTimeOf, State.lastDevTsOf, State.reset], config_params_wf⟩

theorem reset_wireInv : State.reset.WireInv := ⟨rfl, rfl, rfl, rfl⟩

/-- Only the empty buffer replays the empty `raw`, and the scanner's registers at reset are those SCAN starts from. -/
theorem reset_replaysRaw : State.reset.ReplaysRaw := by
  intro buf replays
  obtain rfl : buf = [] := List.map_eq_nil_iff.1 replays
  exact ⟨⟨rfl, rfl, rfl, rfl, rfl⟩, rfl⟩

/-- Settles O28: `esc` is clear at reset, and the two other invariants have a lemma each. -/
theorem resetMeetsTheInvariants : Obligations.ResetMeetsTheInvariants :=
  ⟨nofun, reset_wireInv, reset_replaysRaw⟩

/-! ### Who writes which register -/

/-- What every instruction without a register of its own among `verifyEn`, `txSeq` and the scanner's leaves alone,
with the outputs appended to. -/
structure State.OwnedSame (s t : State) : Prop where
  verifyEn : t.verifyEn = s.verifyEn
  txSeq : t.txSeq = s.txSeq
  scanner : s.ScannerSame t
  outs : s.outs <+: t.outs

/-- What an instruction can do, by the column "written by" of 10_state.md R20: the exact next state of each writer of
`verifyEn`, `txSeq` or a scanner register, and `OwnedSame` for everything else. -/
inductive State.Effect (s : State) : Instr → State → Prop where
  | setverify (v : Bool) : Effect s (.setverify v) ((s.setVerify v).withResult .none)
  | txseq (r : Result) : Effect s .txseq (s.advanceSeq.withResult r)
  | send (m : MsgRef) (value : Option Word) (id : MsgId) (r : Result) :
      Effect s (.send m value) ((s.sendFrame id value).withResult r)
  | rxbyte (b : Byte) (now : Rat) : Effect s (.rxbyte b now) ((s.rxByte b now).withResult .none)
  | token (i : Instr) (b : Byte) (now : Rat) (row : isToken i = true) : Effect s i ((s.rxByte b now).withResult .none)
  | scan (buf : List RxByte) (r : Result) : Effect s (.scan buf) ((s.scannerReset.rxAll buf).withResult r)
  | reset : Effect s .reset (s.resetRegs.withResult .none)
  | other (i : Instr) (t : State) (same : s.OwnedSame t) : Effect s i t

theorem State.ownedSame_withResult {s u : State} (r : Result) (h : s.OwnedSame u) : s.OwnedSame (u.withResult r) :=
  ⟨h.verifyEn, h.txSeq, h.scanner, h.outs⟩

theorem State.ownedSame_refl (s : State) : s.OwnedSame s := ⟨rfl, rfl, ⟨rfl, rfl, rfl, rfl, rfl⟩, List.prefix_rfl⟩

theorem State.ownedSame_output (o : Output) (s : State) : s.OwnedSame (s.output o) :=
  ⟨rfl, rfl, ⟨rfl, rfl, rfl, rfl, rfl⟩, List.prefix_append _ _⟩

theorem State.ownedSame_control (id : MsgId) (seq : Byte) (words : List Word) (now : Rat) (s : State) :
    s.OwnedSame (s.control id seq words now) :=
  ⟨by simp, by simp, by simp [State.ScannerSame], s.control_appends id seq words now⟩

theorem State.ownedSame_ctrl (p : Payload) (now : Rat) (s : State) : s.OwnedSame (s.ctrl p now) :=
  ⟨by simp, by simp, by simp [State.ScannerSame], s.ctrl_appends p now⟩

theorem State.ownedSame_classify (p : Payload) (now : Rat) (s : State) : s.OwnedSame (s.classify p now) :=
  ⟨by simp, by simp, by simp [State.ScannerSame], s.classify_appends p now⟩

theorem State.ownedSame_clockSync (t : Word) (now : Rat) (s : State) : s.OwnedSame (s.clockSync t now) :=
  ⟨by simp, by simp, by simp [State.ScannerSame], s.clockSync_appends t now⟩

theorem State.ownedSame_realtime (ts : Word) (sid : StreamId) (s : State) : s.OwnedSame (s.realtime ts sid) :=
  ⟨by simp, by simp, by simp [State.ScannerSame], s.realtime_appends ts sid⟩

/-- What `ctrl_unassigned` can do (43 R184): its refusal aside, it reports the id. -/
theorem execCtrlUnassigned_cases {id : BitVec 7} {seq : Byte} {s t : State}
    (h : execCtrlUnassigned id seq s = .next t) :
    t = (s.badControl (id.setWidth 8) seq).withResult .none := by
  unfold execCtrlUnassigned at h
  split at h <;> cases h
  rfl

/-- Every instruction that answers a next state has one of the effects; the HDR rows not named are the plain
deliveries. -/
theorem exec_effect {i : Instr} {s t : State} (h : exec i s = .next t) : s.Effect i t := by
  cases i with
  | setverify v => cases h; exact .setverify v
  | txseq => cases h; exact .txseq _
  | send m value =>
    rcases execSend_cases h with ⟨_, rfl⟩ | ⟨id, _, rfl⟩
    · exact .other _ _ (State.ownedSame_withResult _ (s.ownedSame_output _))
    · exact .send m value id _
  | rxbyte b now => cases h; exact .rxbyte b now
  | byteEOP b now => rw [exec_token_cases (.inl rfl) h]; exact .token _ b now rfl
  | byteESC b now => rw [exec_token_cases (.inr (.inl rfl)) h]; exact .token _ b now rfl
  | byteDATA b now => rw [exec_token_cases (.inr (.inr rfl)) h]; exact .token _ b now rfl
  | scan buf => cases h; exact .scan buf _
  | reset => cases h; exact .reset
  | ctrlUnassigned id seq =>
    rw [execCtrlUnassigned_cases h]
    exact .other _ _ (State.ownedSame_withResult _ (s.ownedSame_output _))
  | sync seq words now =>
    cases h; exact .other _ _ (State.ownedSame_withResult _ (s.ownedSame_control 13 seq words now))
  | classify p now => cases h; exact .other _ _ (State.ownedSame_withResult _ (s.ownedSame_classify p now))
  | ctrl p now => cases h; exact .other _ _ (State.ownedSame_withResult _ (s.ownedSame_ctrl p now))
  | clockSync ts now => cases h; exact .other _ _ (State.ownedSame_withResult _ (s.ownedSame_clockSync ts now))
  | realtime ts sid => cases h; exact .other _ _ (State.ownedSame_withResult _ (s.ownedSame_realtime ts sid))
  | stream | strm => cases h; exact .other _ _ (State.ownedSame_withResult _ (s.ownedSame_output _))
  | cksum | escape | unescape | buildframe =>
    cases h; exact .other _ _ (State.ownedSame_withResult _ s.ownedSame_refl)
  | _ => cases h; exact .other _ _ ⟨rfl, rfl, ⟨rfl, rfl, rfl, rfl, rfl⟩, List.prefix_append _ _⟩

theorem exec_appends {i : Instr} {s t : State} (h : exec i s = .next t) : s.outs <+: t.outs := by
  cases exec_effect h with
  | setverify | txseq | reset => exact List.prefix_rfl
  | send => exact List.prefix_append _ _
  | rxbyte b now | token _ b now => exact s.rxByte_appends b now
  | scan buf => exact s.scannerReset.rxAll_appends buf
  | other _ _ same => exact same.outs

/-- Settles O50: a step waits or runs an instruction, and an instruction only appends. -/
theorem outputsAreOnlyAppended : Obligations.OutputsAreOnlyAppended := by
  refine ⟨fun _ _ _ => exec_appends, fun s t h => ?_⟩
  rcases step_cases h with ⟨_, rfl⟩ | ⟨e, rest, _, runs⟩
  · exact List.prefix_rfl
  · exact exec_appends (s := { s with inbox := rest }) runs

theorem exec_verifyEn_writers {i : Instr} {s t : State} (h : exec i s = .next t) (changed : t.verifyEn ≠ s.verifyEn) :
    (∃ v, i = .setverify v) ∨ i = .reset := by
  cases exec_effect h with
  | setverify v => exact .inl ⟨v, rfl⟩
  | reset => exact .inr rfl
  | txseq | send | rxbyte | token | scan => exact absurd (by simp) changed
  | other _ _ same => exact absurd same.verifyEn changed

theorem exec_txSeq_writers {i : Instr} {s t : State} (h : exec i s = .next t) (changed : t.txSeq ≠ s.txSeq) :
    (∃ m v, i = .send m v) ∨ i = .txseq ∨ i = .reset := by
  cases exec_effect h with
  | send m value => exact .inl ⟨m, value, rfl⟩
  | txseq => exact .inr (.inl rfl)
  | reset => exact .inr (.inr rfl)
  | setverify | rxbyte | token | scan => exact absurd (by simp) changed
  | other _ _ same => exact absurd same.txSeq changed

theorem exec_scanner_writers {i : Instr} {s t : State} (h : exec i s = .next t) (changed : ¬s.ScannerSame t) :
    (∃ b now, i = .rxbyte b now) ∨ isToken i = true ∨ (∃ buf, i = .scan buf) ∨ i = .reset := by
  cases exec_effect h with
  | rxbyte b now => exact .inl ⟨b, now, rfl⟩
  | token _ _ _ row => exact .inr (.inl row)
  | scan buf => exact .inr (.inr (.inl ⟨buf, rfl⟩))
  | reset => exact .inr (.inr (.inr rfl))
  | setverify | txseq | send => exact absurd (by simp [State.ScannerSame]) changed
  | other _ _ same => exact absurd same.scanner changed

/-- Settles O52: the instructions by their effects; of the input events only RXBYTE and RESET are among the scanner's
writers. -/
theorem registersHaveTheirOwnWriters : Obligations.RegistersHaveTheirOwnWriters := by
  refine ⟨fun i s t h => ⟨exec_verifyEn_writers h, exec_txSeq_writers h, exec_scanner_writers h⟩,
    fun s t h changed => ?_⟩
  rcases step_cases h with ⟨_, rfl⟩ | ⟨e, rest, presented, runs⟩
  · exact absurd ⟨rfl, rfl, rfl, rfl, rfl⟩ changed
  · have writer := exec_scanner_writers runs changed
    cases e with
    | rxbyte b now => exact .inl ⟨b, now, rest, presented⟩
    | reset => exact .inr ⟨rest, presented⟩
    | setverify | realtime | send | cksum => simp [Event.toInstr, isToken] at writer

/-! ### When the host's clock is read and `synced` written -/

/-- A control payload is a sync packet with a word exactly when its id is 13 and its body holds a word. -/
theorem isSyncWithWord_cons_iff (h seq : Byte) (body : List Byte) :
    IsSyncWithWord (h :: seq :: body) ↔ h = 13 ∧ wordsOf body ≠ [] := by
  constructor
  · rintro ⟨_, b0, b1, b2, b3, more, same⟩
    cases same
    exact ⟨rfl, List.cons_ne_nil _ _⟩
  · rintro ⟨rfl, word⟩
    match body, word with
    | b0 :: b1 :: b2 :: b3 :: more, _ => exact ⟨seq, b0, b1, b2, b3, more, rfl⟩
    | [], word | [_], word | [_, _], word | [_, _, _], word => exact absurd rfl word

/-- Without a sync word a control packet has one next state whatever the clock reading, and `synced` is kept. -/
theorem State.control_without_sync {id : MsgId} {words : List Word} (h : ¬(id = 13 ∧ words ≠ [])) (seq : Byte)
    (s : State) : ∃ u, u.synced = s.synced ∧ ∀ now, s.control id seq words now = u := by
  by_cases sync : id = 13
  · obtain rfl : words = [] := not_not.1 fun word => h ⟨sync, word⟩
    subst sync
    exact ⟨(s.deliver 13 seq []).emit .syncNoWord, rfl, fun _ => rfl⟩
  · exact ⟨s.deliver id seq words, rfl, fun now => State.control_of_ne sync seq words now s⟩

theorem State.ctrl_without_sync {p : Payload} (h : ¬IsSyncWithWord p.bytes) (s : State) :
    ∃ u, u.synced = s.synced ∧ ∀ now, s.ctrl p now = u := by
  obtain ⟨hdr, rest⟩ := p
  cases rest with
  | nil => exact ⟨s.emit (.shortControl hdr), rfl, fun _ => rfl⟩
  | cons seq body =>
    by_cases id : hdr.toNat < 19
    · have no_word : ¬((⟨hdr.toNat, id⟩ : MsgId) = 13 ∧ wordsOf body ≠ []) := by
        rintro ⟨sync, word⟩
        have hdr_val : hdr.toNat = 13 := congrArg Fin.val sync
        exact h ((isSyncWithWord_cons_iff hdr seq body).2 ⟨BitVec.eq_of_toNat_eq hdr_val, word⟩)
      obtain ⟨u, kept, same⟩ := s.control_without_sync no_word seq
      exact ⟨u, kept, fun now => by rw [← same now]; simp [State.ctrl, id]⟩
    · exact ⟨s.badControl hdr seq, rfl, fun now => by simp [State.ctrl, id]⟩

theorem State.classify_without_sync {p : Payload} (h : ¬IsSyncWithWord p.bytes) (s : State) :
    ∃ u, u.synced = s.synced ∧ ∀ now, s.classify p now = u := by
  unfold State.classify
  split
  · exact ⟨s.strm p, rfl, fun _ => rfl⟩
  · exact s.ctrl_without_sync h

theorem State.judge_without_sync {s : State} (h : ¬IsSyncWithWord s.pay) (b : Byte) :
    ∃ u, u.synced = s.synced ∧ ∀ now, s.judge b now = u := by
  unfold State.judge
  rcases verdict_cases s.verifyEn s.cks s.pay b with ⟨_, v⟩ | ⟨_, _, _, _, v⟩ | ⟨hdr, rest, pay, _, v⟩ <;> rw [v]
  · exact ⟨s.emit .emptyPayload, rfl, fun _ => rfl⟩
  · exact ⟨s.emit (.badChecksum b s.cks s.pay.length), rfl, fun _ => rfl⟩
  · have no_sync : ¬IsSyncWithWord (Payload.mk hdr rest).bytes := by rwa [pay] at h
    exact (s.output (.frame (hdr :: rest))).classify_without_sync no_sync

/-- Rows R151 to R157 of the transition table complete no frame: they write no clock register. -/
theorem State.rxByte_synced_of_ne_readTrail {s : State} (h : s.st ≠ .readTrail) (b : Byte) (now : Rat) :
    (s.rxByte b now).synced = s.synced := by
  rcases s.rxByte_cases b now with ⟨_, _, e⟩ | ⟨_, _, e⟩ | ⟨_, e⟩ | ⟨_, _, e⟩ | ⟨_, _, _, _, e⟩ | ⟨_, _, _, e⟩ |
    ⟨_, _, _, _, e⟩ | ⟨trail, _⟩
  on_goal 8 => exact absurd trail h
  all_goals rw [e]; rfl

/-- Rows R151 to R157 of the transition table do not read the clock. -/
theorem State.rxByte_now_of_ne_readTrail {s : State} (h : s.st ≠ .readTrail) (b : Byte) (now now' : Rat) :
    s.rxByte b now = s.rxByte b now' := by
  cases st : s.st with
  | readTrail => exact absurd st h
  | seekStart | readLead | collecting => simp only [State.rxByte, State.rxClass, st]

/-- R39: RXBYTE that completes no sync packet with a word has one next state whatever the clock reading, and `synced`
is kept. -/
theorem State.rxByte_without_sync {s : State} (h : ¬(s.st = .readTrail ∧ IsSyncWithWord s.pay)) (b : Byte) :
    ∃ u, u.synced = s.synced ∧ ∀ now, s.rxByte b now = u := by
  by_cases trail : s.st = .readTrail
  · obtain ⟨u, kept, same⟩ := State.judge_without_sync (fun sync => h ⟨trail, sync⟩) b
    exact ⟨u.toSeek.keepRaw b, kept, fun now => by rw [State.rxByte_readTrail trail, State.completeFrame, same now]⟩
  · exact ⟨s.rxByte b 0, State.rxByte_synced_of_ne_readTrail trail b 0,
      fun now => State.rxByte_now_of_ne_readTrail trail b now 0⟩

/-- R160: a frame whose checksum does not match is not decoded, so the clock is not read. -/
theorem State.judge_now_of_mismatch {s : State} {b : Byte} (verify : s.verifyEn = true) (checked : b ≠ 0)
    (mismatch : b ≠ s.cks) (now now' : Rat) : s.judge b now = s.judge b now' := by
  unfold State.judge
  rcases verdict_cases s.verifyEn s.cks s.pay b with ⟨_, v⟩ | ⟨_, _, _, _, v⟩ | ⟨_, _, _, accepted, _⟩
  · rw [v]
  · rw [v]
  · exact absurd ⟨verify, checked, mismatch⟩ accepted

theorem State.rxByte_now_of_mismatch {s : State} {b : Byte} (verify : s.verifyEn = true) (checked : b ≠ 0)
    (mismatch : b ≠ s.cks) (now now' : Rat) : s.rxByte b now = s.rxByte b now' := by
  by_cases trail : s.st = .readTrail
  · rw [State.rxByte_readTrail trail, State.rxByte_readTrail trail, State.completeFrame, State.completeFrame,
      State.judge_now_of_mismatch verify checked mismatch now now']
  · exact State.rxByte_now_of_ne_readTrail trail b now now'

theorem exec_rxbyte (b : Byte) (now : Rat) (s : State) :
    exec (.rxbyte b now) s = .next ((s.rxByte b now).withResult .none) := rfl

/-- Settles O56, by what RXBYTE does without a sync word and on a checksum mismatch. -/
theorem hostTimeIsReadOnlyBySync : Obligations.HostTimeIsReadOnlyBySync := by
  refine ⟨fun s b now now' no_sync => ?_, fun s b now now' verify checked mismatch => ?_⟩
  · obtain ⟨u, _, same⟩ := State.rxByte_without_sync no_sync b
    rw [exec_rxbyte, exec_rxbyte, same now, same now']
  · rw [exec_rxbyte, exec_rxbyte, State.rxByte_now_of_mismatch verify checked mismatch now now']

/-- R28: the first SYNC sets the flag and a later one keeps it. -/
@[simp] theorem State.clockSync_synced (t : Word) (now : Rat) (s : State) : (s.clockSync t now).synced = true := by
  rcases s.clockSync_cases t now with ⟨_, e⟩ | ⟨synced, e⟩ <;> rw [e]
  · rfl
  · rw [State.laterSync_synced, synced]

theorem State.control_stays_synced {s : State} (h : s.synced = true) (id : MsgId) (seq : Byte) (words : List Word)
    (now : Rat) : (s.control id seq words now).synced = true := by
  by_cases sync : id = 13
  · subst sync
    rw [State.control_sync]
    rcases (s.deliver 13 seq words).syncPacket_cases words now with ⟨_, e⟩ | ⟨t, _, _, e⟩ <;> rw [e]
    · exact h
    · exact State.clockSync_synced t now _
  · rw [State.control_of_ne sync]
    exact h

theorem State.classify_stays_synced {s : State} (h : s.synced = true) (p : Payload) (now : Rat) :
    (s.classify p now).synced = true := by
  rcases s.classify_cases p now with ⟨_, e⟩ | ⟨_, e⟩ <;> rw [e]
  · exact h
  · rcases s.ctrl_cases p now with ⟨_, e⟩ | ⟨seq, body, id, _, e⟩ | ⟨_, _, _, _, e⟩ <;> rw [e]
    · exact h
    · exact State.control_stays_synced h _ seq _ now
    · exact h

theorem State.judge_stays_synced {s : State} (h : s.synced = true) (b : Byte) (now : Rat) :
    (s.judge b now).synced = true := by
  rcases s.judge_cases b now with ⟨_, e⟩ | ⟨_, _, _, _, e⟩ | ⟨hdr, rest, _, _, e⟩ <;> rw [e]
  · exact h
  · exact h
  · exact State.classify_stays_synced (s := s.output (.frame (hdr :: rest))) h _ now

theorem State.rxByte_stays_synced {s : State} (h : s.synced = true) (b : Byte) (now : Rat) :
    (s.rxByte b now).synced = true := by
  by_cases trail : s.st = .readTrail
  · rw [State.rxByte_readTrail trail]
    exact State.judge_stays_synced h b now
  · rw [State.rxByte_synced_of_ne_readTrail trail, h]

/-- What a step can do to `synced`: keep it, receive a byte, or reset it. -/
theorem step_synced_cases {s t : State} (h : step s = .next t) :
    t.synced = s.synced ∨
    (∃ b now rest, s.inbox = .rxbyte b now :: rest ∧
      t = (State.rxByte b now { s with inbox := rest }).withResult .none) ∨
    (∃ rest, s.inbox = .reset :: rest ∧ t.synced = false) := by
  rcases step_cases h with ⟨_, rfl⟩ | ⟨e, rest, presented, runs⟩
  · exact .inl rfl
  · cases e with
    | rxbyte b now => cases runs; exact .inr (.inl ⟨b, now, rest, presented, rfl⟩)
    | reset => cases runs; exact .inr (.inr ⟨rest, presented, rfl⟩)
    | setverify | cksum => cases runs; exact .inl rfl
    | realtime ts sid => cases runs; exact .inl (State.realtime_synced ts sid _)
    | send m value => rcases execSend_cases runs with ⟨_, rfl⟩ | ⟨_, _, rfl⟩ <;> exact .inl rfl

/-- Settles O54: a received byte keeps a set flag and sets a clear one only on a sync packet with a word. -/
theorem syncedIsClearedOnlyByReset : Obligations.SyncedIsClearedOnlyByReset := by
  refine ⟨fun s t h synced => ?_, fun s ts now => ⟨_, rfl, State.clockSync_synced ts now s⟩,
    fun s t h clear set => ?_, rfl⟩
  · rcases step_synced_cases h with kept | ⟨b, now, rest, _, rfl⟩ | ⟨rest, presented, _⟩
    · exact .inl (kept.trans synced)
    · exact .inl (State.rxByte_stays_synced (s := { s with inbox := rest }) synced b now)
    · exact .inr ⟨rest, presented⟩
  · rcases step_synced_cases h with kept | ⟨b, now, rest, presented, rfl⟩ | ⟨_, _, cleared⟩
    · simp [kept, clear] at set
    · refine ⟨b, now, rest, presented, not_not.1 fun no_sync => ?_⟩
      obtain ⟨u, kept, same⟩ :=
        State.rxByte_without_sync (s := { s with inbox := rest }) (fun sync => no_sync sync.2) b
      rw [State.withResult_synced, same now, kept] at set
      exact absurd set (by simp [clear])
    · simp [cleared] at set

end Sys2Proof.Machine
end

section
/-! PROOFS. 20_memory.md: the order of the value stream's bits (R63, R64, R66), when the verification option is read
(R81), and that the transmit and receive sides share no register (R78). -/

namespace Sys2Proof.Machine

/-! ### The value stream -/

@[simp] theorem bitsMsb_length {n : Nat} (v : BitVec n) : (bitsMsb v).length = n := by
  simp [bitsMsb]

theorem bitsMsb_getElem? {n j : Nat} (v : BitVec n) (h : j < n) : (bitsMsb v)[j]? = some (v.getLsbD (n - 1 - j)) := by
  simp [bitsMsb, BitVec.getMsbD, h]

/-- R63, R66: among the bits of a byte sequence, bit `j` is one of byte `j / 8`. -/
theorem flatMap_bitsMsb_getElem? {rest : List Byte} {j : Nat} {b : Byte} (h : rest[j / 8]? = some b) :
    (rest.flatMap bitsMsb)[j]? = some (b.getLsbD (7 - j % 8)) := by
  induction rest generalizing j with
  | nil => simp at h
  | cons x xs ih =>
    rw [List.flatMap_cons]
    by_cases head : j < 8
    · rw [Nat.div_eq_of_lt head] at h
      obtain rfl : x = b := by simpa using h
      rw [List.getElem?_append_left (by simpa using head), bitsMsb_getElem? x head, Nat.mod_eq_of_lt head]
    · obtain ⟨k, rfl⟩ := Nat.exists_eq_add_of_le' (not_lt.1 head)
      rw [Nat.add_div_right k (by decide), List.getElem?_cons_succ] at h
      rw [List.getElem?_append_right (by simp), bitsMsb_length, Nat.add_sub_cancel, ih h, Nat.add_mod_right]

/-- Settles O40: the nibble's four bits stand first, then those of the bytes. -/
theorem streamBitsAreMsbFirst : Obligations.StreamBitsAreMsbFirst := by
  refine fun nib rest => ⟨?_, fun j low => ?_, fun j b byte => ?_⟩
  · simp [valueStream, List.length_flatMap, Nat.mul_comm]
  · rw [valueStream, List.getElem?_append_left (by simpa using low), bitsMsb_getElem? nib low]
  · rw [valueStream, List.getElem?_append_right (by simp), bitsMsb_length, Nat.add_sub_cancel_left,
      flatMap_bitsMsb_getElem? byte]

/-! ### What RXBYTE reads before the trailing byte -/

/-- `u` with the scanner's registers and the parameters taken from `s`. -/
def State.scannerFrom (u s : State) : State :=
  { u with st := s.st, esc := s.esc, cks := s.cks, pay := s.pay, raw := s.raw, par := s.par }

/-- Rows R151 to R157 of the transition table read and write nothing but the scanner's registers. -/
theorem State.rxByte_scannerFrom {s : State} (h : s.st ≠ .readTrail) (u : State) (b : Byte) (now : Rat) :
    (u.scannerFrom s).rxByte b now = u.scannerFrom (s.rxByte b now) := by
  rcases s.rxByte_cases b now with ⟨st, eop, e⟩ | ⟨st, eop, e⟩ | ⟨st, e⟩ | ⟨st, escaped, e⟩ |
    ⟨st, escaped, eop, esc, e⟩ | ⟨st, escaped, eop, e⟩ | ⟨st, escaped, eop, esc, e⟩ | ⟨st, _⟩
  on_goal 8 => exact absurd st h
  all_goals rw [e]
  · exact State.rxByte_seek_eop (s := u.scannerFrom s) st eop
  · exact State.rxByte_seek_other (s := u.scannerFrom s) st eop
  · exact State.rxByte_readLead (s := u.scannerFrom s) st
  · exact State.rxByte_escaped (s := u.scannerFrom s) st escaped
  · exact State.rxByte_esc (s := u.scannerFrom s) st escaped eop esc
  · exact State.rxByte_close (s := u.scannerFrom s) st escaped eop
  · exact State.rxByte_data (s := u.scannerFrom s) st escaped eop esc

/-- R81, first half: `verifyEn` is not read before `ReadTrail`. -/
theorem State.rxByte_with_verifyEn {s : State} (h : s.st ≠ .readTrail) (v : Bool) (b : Byte) (now : Rat) :
    State.rxByte b now { s with verifyEn := v } = { s.rxByte b now with verifyEn := v } := by
  have own : s.rxByte b now = s.scannerFrom (s.rxByte b now) := State.rxByte_scannerFrom h s b now
  rw [own]
  exact State.rxByte_scannerFrom h { s with verifyEn := v } b now

/-! ### What the trailing byte outputs -/

/-- R160: the whole output of the step that rejects a frame. -/
theorem State.newOutputs_rxByte_rejected {s : State} {b : Byte} (trail : s.st = .readTrail) (payload : s.pay ≠ [])
    (rejected : s.verifyEn = true ∧ b ≠ 0 ∧ b ≠ s.cks) (now : Rat) :
    newOutputs s (s.rxByte b now) = [.ev (.badChecksum b s.cks s.pay.length)] := by
  rw [State.rxByte_readTrail trail, State.completeFrame]
  rcases s.judge_cases b now with ⟨empty, _⟩ | ⟨_, _, _, _, e⟩ | ⟨_, _, _, accepted, _⟩
  · exact absurd empty payload
  · simp [newOutputs, e]
  · exact absurd rejected accepted

/-- R161: the step that accepts a frame outputs it before anything its payload's packet outputs. -/
theorem State.newOutputs_rxByte_accepted {s : State} {b : Byte} (trail : s.st = .readTrail) (payload : s.pay ≠ [])
    (accepted : ¬(s.verifyEn = true ∧ b ≠ 0 ∧ b ≠ s.cks)) (now : Rat) :
    ∃ more, newOutputs s (s.rxByte b now) = .frame s.pay :: more := by
  rw [State.rxByte_readTrail trail, State.completeFrame]
  rcases s.judge_cases b now with ⟨empty, _⟩ | ⟨_, verify, checked, mismatch, _⟩ | ⟨hdr, rest, pay, _, e⟩
  · exact absurd empty payload
  · exact absurd ⟨verify, checked, mismatch⟩ accepted
  · obtain ⟨more, appended⟩ := (s.output (.frame (hdr :: rest))).classify_appends ⟨hdr, rest⟩ now
    exact ⟨more, by simp [newOutputs, e, ← appended, pay]⟩

/-- Settles O14: received bytes keep the option, and the trailing byte's step decides by it. -/
theorem verifyOptionIsSampledAtCompletion : Obligations.VerifyOptionIsSampledAtCompletion := by
  refine ⟨fun s t v b now before runs => ?_, fun s u t v mid b now set received trail payload => ?_⟩
  · cases runs
    rw [exec_rxbyte, State.rxByte_with_verifyEn before]
    rfl
  · have kept : t.verifyEn = v := by
      cases set
      simp [received]
    refine ⟨kept, _, exec_rxbyte b now t, fun rejected => ?_, fun accepted => ?_⟩
    · exact State.newOutputs_rxByte_rejected trail payload (by rwa [kept]) now
    · exact State.newOutputs_rxByte_accepted trail payload (by rwa [kept]) now

/-! ### Neither side reads the other's registers -/

/-- `s` with another transmit sequence counter. -/
def State.withTxSeq (q : Byte) (s : State) : State := { s with txSeq := q }

/-- An operation that commutes with `graft` (Laws/Noninterference) commutes with replacing `txSeq`, which is among the
registers `graft` takes over. -/
theorem State.withTxSeq_of_graft {f : State → State} (commutes : ∀ u s : State, f (u.graft s) = u.graft (f s))
    (q : Byte) (s : State) : f (s.withTxSeq q) = (f s).withTxSeq q := by
  have own : f s = s.graft (f s) := commutes s s
  rw [own]
  exact commutes (s.withTxSeq q) s

theorem State.emitIf_withTxSeq (c : Bool) (e : Ev) (q : Byte) (s : State) :
    (s.withTxSeq q).emitIf c e = (s.emitIf c e).withTxSeq q :=
  State.withTxSeq_of_graft (fun u s => u.emitIf_graft s c e) q s

theorem State.clockSync_withTxSeq (t : Word) (now : Rat) (q : Byte) (s : State) :
    (s.withTxSeq q).clockSync t now = (s.clockSync t now).withTxSeq q :=
  State.withTxSeq_of_graft (fun u s => u.clockSync_graft s t now) q s

theorem State.classify_withTxSeq (p : Payload) (now : Rat) (q : Byte) (s : State) :
    (s.withTxSeq q).classify p now = (s.classify p now).withTxSeq q :=
  State.withTxSeq_of_graft (fun u s => u.classify_graft s p now) q s

/-- The verdict does not depend on `txSeq`, and only an accepted frame does more than report. -/
theorem State.judge_withTxSeq (b : Byte) (now : Rat) (q : Byte) (s : State) :
    (s.withTxSeq q).judge b now = (s.judge b now).withTxSeq q := by
  unfold State.judge
  rw [show verdict (s.withTxSeq q).verifyEn (s.withTxSeq q).cks (s.withTxSeq q).pay b =
    verdict s.verifyEn s.cks s.pay b from rfl]
  cases verdict s.verifyEn s.cks s.pay b with
  | empty => rfl
  | rejected => rfl
  | accepted p => exact (s.output (.frame p.bytes)).classify_withTxSeq p now q

theorem State.rxByte_withTxSeq (b : Byte) (now : Rat) (q : Byte) (s : State) :
    (s.withTxSeq q).rxByte b now = (s.rxByte b now).withTxSeq q := by
  by_cases trail : s.st = .readTrail
  · rw [State.rxByte_readTrail trail, State.rxByte_readTrail (s := s.withTxSeq q) trail, State.completeFrame,
      State.judge_withTxSeq]
    rfl
  · have own : s.rxByte b now = s.scannerFrom (s.rxByte b now) := State.rxByte_scannerFrom trail s b now
    rw [own]
    exact State.rxByte_scannerFrom trail (s.withTxSeq q) b now

theorem State.realtime_withTxSeq (ts : Word) (sid : StreamId) (q : Byte) (s : State) :
    (s.withTxSeq q).realtime ts sid = (s.realtime ts sid).withTxSeq q := by
  have flag : (s.withTxSeq q).synced = s.synced := rfl
  cases h : s.synced with
  | false =>
    simp only [State.realtime, flag, h, Bool.false_eq_true, if_false]
    rfl
  | true =>
    simp only [State.realtime, flag, h, if_true, State.emitIf_withTxSeq]
    rfl

/-- R36: what SEND writes, returns and outputs is a function of `txSeq` and the parameters. -/
theorem execSend_reads_txSeq_par {m : MsgRef} {value : Option Word} {s s' t t' : State} (seq : s.txSeq = s'.txSeq)
    (par : s.par = s'.par) (sent : execSend m value s = .next t) (sent' : execSend m value s' = .next t') :
    t'.txSeq = t.txSeq ∧ t'.result = t.result ∧ newOutputs s' t' = newOutputs s t := by
  rcases execSend_cases sent with ⟨unknown, rfl⟩ | ⟨id, known, rfl⟩ <;>
    rcases execSend_cases sent' with ⟨unknown', rfl⟩ | ⟨id', known', rfl⟩
  · simp [newOutputs, seq]
  · simp [unknown] at known'
  · simp [unknown'] at known
  · obtain rfl : id = id' := Option.some.inj (known.symm.trans known')
    simp [newOutputs, seq, par]

/-- Settles O57: the receive side's operations commute with replacing `txSeq`, and SEND reads only `txSeq` and the
parameters. -/
theorem transmitAndReceiveShareNoState : Obligations.TransmitAndReceiveShareNoState := by
  refine ⟨fun s t q b now runs => ?_, fun s t q ts sid runs => ?_, fun s t q ts now runs => ?_,
    fun s s' t t' m value seq par sent sent' => execSend_reads_txSeq_par seq par sent sent'⟩ <;> cases runs
  · exact congrArg (complete .none) (s.rxByte_withTxSeq b now q)
  · exact congrArg (complete .none) (s.realtime_withTxSeq ts sid q)
  · exact congrArg (complete .none) (s.clockSync_withTxSeq ts now q)

end Sys2Proof.Machine
end

section
/-! PROOFS. 30_encoding.md: the byte classes (R95), the header-byte map (R100, R117), the decoder against the encoder in
both directions (R97 to R102), and a header-map word placed where the next step runs it. -/

namespace Sys2Proof.Machine

/-! ### The TOKEN rows (R95) -/

theorem decodeToken_eop {P : Params} {b : Byte} (eop : b = P.eop) (now : Rat) :
    decodeToken P b now = .byteEOP b now := by
  rw [decodeToken, if_pos eop]

theorem decodeToken_esc {P : Params} {b : Byte} (not_eop : b ≠ P.eop) (esc : b = P.esc) (now : Rat) :
    decodeToken P b now = .byteESC b now := by
  rw [decodeToken, if_neg not_eop, if_pos esc]

theorem decodeToken_data {P : Params} {b : Byte} (not_eop : b ≠ P.eop) (not_esc : b ≠ P.esc) (now : Rat) :
    decodeToken P b now = .byteDATA b now := by
  rw [decodeToken, if_neg not_eop, if_neg not_esc]

/-- The byte-class decoder answers well-formed terms only, whatever the parameters. -/
theorem decodeToken_wellFormed (P : Params) (b : Byte) (now : Rat) : (decodeToken P b now).wellFormed P = true := by
  by_cases eop : b = P.eop
  · rw [decodeToken_eop eop]
    simpa [Instr.wellFormed] using eop
  · by_cases esc : b = P.esc
    · rw [decodeToken_esc eop esc]
      simpa [Instr.wellFormed] using ⟨esc, eop⟩
    · rw [decodeToken_data eop esc]
      simpa [Instr.wellFormed] using ⟨eop, esc⟩

/-- A well-formed TOKEN term is the one its byte decodes to. -/
theorem decodeToken_of_wellFormed {P : Params} {i : Instr} {b : Byte} {now : Rat}
    (row : i = .byteEOP b now ∨ i = .byteESC b now ∨ i = .byteDATA b now) (wf : i.wellFormed P = true) :
    decodeToken P b now = i := by
  rcases row with rfl | rfl | rfl
  · have eop : b = P.eop := by simpa [Instr.wellFormed] using wf
    exact decodeToken_eop eop now
  · obtain ⟨esc, not_eop⟩ : b = P.esc ∧ b ≠ P.eop := by simpa [Instr.wellFormed] using wf
    exact decodeToken_esc not_eop esc now
  · obtain ⟨not_eop, not_esc⟩ : b ≠ P.eop ∧ b ≠ P.esc := by simpa [Instr.wellFormed] using wf
    exact decodeToken_data not_eop not_esc now

/-- Settles O5: `EOP` is not `ESC`, so the first two classes exclude each other. -/
theorem everyByteIsOfOneClass : Obligations.EveryByteIsOfOneClass := fun P b now ⟨distinct, _⟩ =>
  ⟨fun eop => decodeToken_eop eop now,
    fun esc => decodeToken_esc (fun eop => distinct (eop.symm.trans esc)) esc now,
    fun not_eop not_esc => decodeToken_data not_eop not_esc now,
    decodeToken_wellFormed P b now⟩

/-! ### Header bytes (R97, R100, R117) -/

theorem msb_eq_false_iff (h : Byte) : h.msb = false ↔ h.toNat < 128 := by
  rw [← not_le, ← msb_iff, Bool.not_eq_true]

/-- A control header, bit 7 clear, is its 7-bit id. -/
theorem append_controlId {h : Byte} (control : h.msb = false) : (0#1) ++ h.extractLsb' 0 7 = h := by
  revert h
  decide +kernel

theorem controlId_append (id : BitVec 7) : ((0#1) ++ id).extractLsb' 0 7 = id := by
  revert id
  decide +kernel

theorem append_eq_setWidth (id : BitVec 7) : (0#1) ++ id = id.setWidth 8 := by
  revert id
  decide +kernel

theorem append_toNat (id : BitVec 7) : ((0#1) ++ id).toNat = id.toNat := by
  rw [append_eq_setWidth, BitVec.toNat_setWidth, Nat.mod_eq_of_lt (by omega)]

theorem streamHeader_eq_ofNat (sid : StreamId) (v : BitVec 4) :
    streamHeader sid v = BitVec.ofNat 8 (0x80 + 0x10 * sid.toNat + v.toNat) := by
  revert sid v
  decide +kernel

/-- The first row of the header-byte map that matches, by the three ranges of header bytes. -/
theorem headerRow_eq : ∀ h : Byte, headerRow h =
    if h.toNat < 19 then nameTable[h.toNat]? else some (if h.toNat < 128 then "ctrl_unassigned" else "stream") := by
  decide +kernel

theorem headerRow_control {h : Byte} (id : h.toNat < 19) : headerRow h = nameTable[h.toNat]? := by
  rw [headerRow_eq, if_pos id]

theorem headerRow_unassigned {h : Byte} (lo : 19 ≤ h.toNat) (hi : h.toNat < 128) :
    headerRow h = some "ctrl_unassigned" := by
  rw [headerRow_eq, if_neg (not_lt.2 lo), if_pos hi]

theorem headerRow_stream {h : Byte} (hm : 128 ≤ h.toNat) : headerRow h = some "stream" := by
  rw [headerRow_eq, if_neg (by omega), if_neg (not_lt.2 hm)]

/-- R100, a payload of at least two bytes: the row of its header byte, for each of the three ranges. -/
theorem decode_follows_headerRow (now : Rat) (h seq : Byte) (body : List Byte) :
    ∃ i, decode now (h :: seq :: body) = .ok i ∧ headerRow h = some i.mnemonic ∧
      (h.toNat < 0x13 → nameTable[h.toNat]? = some i.mnemonic) ∧
      (0x13 ≤ h.toNat → h.toNat ≤ 0x7F → ∃ id : BitVec 7, id.toNat = h.toNat ∧ i = .ctrlUnassigned id seq) := by
  by_cases assigned : h.toNat < 19
  · have name := mnemonic_controlInstr ⟨h.toNat, assigned⟩ seq (wordsOf body) now
    exact ⟨_, decode_control now h seq body assigned, (headerRow_control assigned).trans name, fun _ => name,
      fun unassigned _ => absurd assigned (not_lt.2 unassigned)⟩
  · have lo : 19 ≤ h.toNat := not_lt.1 assigned
    by_cases hi : h.toNat < 128
    · have control : h.msb = false := (msb_eq_false_iff h).2 hi
      have id_val : (h.extractLsb' 0 7).toNat = h.toNat := by
        rw [← append_toNat, append_controlId control]
      exact ⟨_, decode_unassigned now h seq body control lo, headerRow_unassigned lo hi,
        fun id => absurd id assigned, fun _ _ => ⟨_, id_val, rfl⟩⟩
    · have hm : 128 ≤ h.toNat := not_lt.1 hi
      exact ⟨_, decode_stream now h (seq :: body) ((msb_iff h).2 hm), headerRow_stream hm,
        fun id => absurd id assigned, fun _ le => absurd (Nat.lt_succ_of_le le) hi⟩

theorem decode_streamHeader (now : Rat) (sid : StreamId) (v : BitVec 4) (rest : List Byte) :
    decode now (streamHeader sid v :: rest) = .ok (.stream sid v rest) := by
  rw [decode_stream now _ rest (streamHeader_msb sid v), headerSid_streamHeader, headerNibble_streamHeader]

/-- Settles O2: the three ranges of header bytes, and the fields of a stream header as its value. -/
theorem everyHeaderByteIsClassified : Obligations.EveryHeaderByteIsClassified := by
  refine ⟨decode_follows_headerRow, fun now sid v rest => ?_, fun h hm => ?_⟩
  · rw [← streamHeader_eq_ofNat, decode_streamHeader]
  · refine ⟨headerSid h, headerNibble h, ?_⟩
    rw [← streamHeader_eq_ofNat, streamHeader_fields h ((msb_iff h).2 hm)]

/-! ### The decoder after the encoder (R97 to R102, R95) -/

/-- What has an encoding: the control message of an assigned id, an unassigned id, a stream packet, a received byte. -/
theorem encode_cases {i : Instr} {bs : List Byte} (h : encode i = some bs) :
    (∃ id seq words now, i = controlInstr id seq words now ∧ bs = encodeControl id seq words) ∨
    (∃ id seq, i = .ctrlUnassigned id seq ∧ bs = [(0#1) ++ id, seq]) ∨
    (∃ sid nibble rest, i = .stream sid nibble rest ∧ bs = streamHeader sid nibble :: rest) ∨
    (∃ b now, (i = .byteEOP b now ∨ i = .byteESC b now ∨ i = .byteDATA b now) ∧ bs = [b]) := by
  cases i with
  | talk | overMsg | bad | version | start | stop | set | dir | query | info | dig | wav | point | avg | timer | event
  | resetevents | trigger =>
    cases h
    refine .inl ⟨_, _, _, 0, ?_, rfl⟩
    rfl
  | sync seq words now => cases h; exact .inl ⟨13, seq, words, now, rfl, rfl⟩
  | ctrlUnassigned id seq => cases h; exact .inr (.inl ⟨id, seq, rfl, rfl⟩)
  | stream sid nibble rest => cases h; exact .inr (.inr (.inl ⟨sid, nibble, rest, rfl, rfl⟩))
  | byteEOP b now => cases h; exact .inr (.inr (.inr ⟨b, now, .inl rfl, rfl⟩))
  | byteESC b now => cases h; exact .inr (.inr (.inr ⟨b, now, .inr (.inl rfl), rfl⟩))
  | byteDATA b now => cases h; exact .inr (.inr (.inr ⟨b, now, .inr (.inr rfl), rfl⟩))
  | _ => cases h

@[simp] theorem isToken_controlInstr (id : MsgId) (seq : Byte) (words : List Word) (now : Rat) :
    isToken (controlInstr id seq words now) = false := by
  fin_cases id <;> rfl

@[simp] theorem atTime_controlInstr (id : MsgId) (seq : Byte) (words : List Word) (now now' : Rat) :
    atTime now (controlInstr id seq words now') = controlInstr id seq words now := by
  fin_cases id <;> rfl

/-- A TOKEN term that the clock reading `now` leaves as it is has that reading. -/
theorem now_of_atTime_token {i : Instr} {b : Byte} {now now' : Rat}
    (row : i = .byteEOP b now' ∨ i = .byteESC b now' ∨ i = .byteDATA b now') (fixed : atTime now i = i) :
    now' = now := by
  rcases row with rfl | rfl | rfl <;> cases fixed <;> rfl

theorem isToken_of_row {i : Instr} {b : Byte} {now : Rat}
    (row : i = .byteEOP b now ∨ i = .byteESC b now ∨ i = .byteDATA b now) : isToken i = true := by
  rcases row with rfl | rfl | rfl <;> rfl

theorem ofNat_msgId_toNat (id : MsgId) : (BitVec.ofNat 8 id.val).toNat = id.val := by
  rw [BitVec.toNat_ofNat, Nat.mod_eq_of_lt (by omega)]

/-- R98, R101: a control payload written by the encoder reads back as the message it was written for. -/
theorem decode_encodeControl (id : MsgId) (seq : Byte) (words : List Word) (now : Rat) :
    decode now (encodeControl id seq words) = .ok (controlInstr id seq words now) := by
  have hdr := ofNat_msgId_toNat id
  have assigned : (BitVec.ofNat 8 id.val).toNat < 19 := hdr.symm ▸ id.isLt
  have same_id : (⟨(BitVec.ofNat 8 id.val).toNat, assigned⟩ : MsgId) = id := Fin.ext hdr
  have same_words : wordsOf (words.flatMap bytesBe32) = words := by
    simpa using wordsOf_flatMap_append words [] (by simp)
  rw [encodeControl, decode_control now _ seq _ assigned, same_id, same_words]

theorem decode_encode_unassigned (now : Rat) {id : BitVec 7} (unassigned : 19 ≤ id.toNat) (seq : Byte) :
    decode now [(0#1) ++ id, seq] = .ok (.ctrlUnassigned id seq) := by
  have control : ((0#1) ++ id).msb = false := by
    rw [msb_eq_false_iff, append_toNat]
    exact id.isLt
  rw [decode_unassigned now _ seq [] control (by rwa [append_toNat]), controlId_append]

/-- Settles O3, by the four forms of instruction that have an encoding. -/
theorem decodeInvertsEncode : Obligations.DecodeInvertsEncode := by
  intro P i bs now wf encoded fixed
  rcases encode_cases encoded with ⟨id, seq, words, now', rfl, rfl⟩ | ⟨id, seq, rfl, rfl⟩ |
    ⟨sid, nibble, rest, rfl, rfl⟩ | ⟨b, now', row, rfl⟩
  · rw [atTime_controlInstr] at fixed
    exact ⟨fun _ => by rw [decode_encodeControl, fixed], fun token => by simp at token⟩
  · exact ⟨fun _ => decode_encode_unassigned now (by simpa [Instr.wellFormed] using wf) seq, nofun⟩
  · exact ⟨fun _ => decode_streamHeader now sid nibble rest, nofun⟩
  · obtain rfl := now_of_atTime_token row fixed
    exact ⟨fun hdr => by simp [isToken_of_row row] at hdr, fun _ => ⟨b, rfl, decodeToken_of_wellFormed row wf⟩⟩

/-! ### The encoder after the decoder (R98, R99; 20 R67; 43 R184) -/

/-- R98, R67: the encoding of what a control payload decodes to is the payload less the partial word at its end. -/
theorem encodeControl_prefix (h seq : Byte) (body : List Byte) (id : h.toNat < 19) :
    encodeControl ⟨h.toNat, id⟩ seq (wordsOf body) <+: h :: seq :: body ∧
      (h :: seq :: body).length ≤ (encodeControl ⟨h.toNat, id⟩ seq (wordsOf body)).length + 3 := by
  obtain ⟨tail, parts, short⟩ := flatMap_wordsOf body
  have payload : h :: seq :: body = encodeControl ⟨h.toNat, id⟩ seq (wordsOf body) ++ tail := by
    conv_lhs => rw [parts]
    simp [encodeControl]
  rw [payload, List.length_append]
  exact ⟨List.prefix_append _ _, by omega⟩

/-- Settles O4, by the forms of payload that decode. -/
theorem encodeInvertsDecodeUpToDroppedBytes : Obligations.EncodeInvertsDecodeUpToDroppedBytes := by
  intro now p i decoded
  rcases decode_cases decoded with ⟨h, rest, rfl, hm, rfl⟩ | ⟨h, seq, body, id, rfl, hm, rfl⟩ |
    ⟨h, seq, body, rfl, hm, lo, rfl⟩
  · have hi := (msb_iff h).1 hm
    refine ⟨h :: rest, by rw [encode, streamHeader_fields h hm], List.prefix_rfl, ?_⟩
    rintro _ _ ⟨rfl, rfl⟩
    exact ⟨fun _ => rfl, by omega, by omega⟩
  · obtain ⟨initial, dropped⟩ := encodeControl_prefix h seq body id
    refine ⟨_, encode_controlInstr _ seq _ now, initial, ?_⟩
    rintro _ _ ⟨rfl, rfl⟩
    exact ⟨by omega, fun _ => dropped, by omega⟩
  · have hi := (msb_eq_false_iff h).1 hm
    refine ⟨[h, seq], by rw [encode, append_controlId hm], ⟨body, rfl⟩, ?_⟩
    rintro _ _ ⟨rfl, rfl⟩
    exact ⟨by omega, by omega, fun _ _ => rfl⟩

/-- Settles O1: one law of the decoder for each form of payload, the operands by evaluation. -/
theorem decodedWordsAreTheSpecs : Obligations.DecodedWordsAreTheSpecs :=
  ⟨decode_control 0 0x04 0x15 [0, 0, 0, 3] (by decide),
    decode_control 0 0x06 0x7E [0x7D, 0, 0, 0x7E] (by decide),
    decode_control 100 0x0D 0x02 [0, 0, 0x10, 0] (by decide),
    decode_unassigned 0 0x13 0x01 [] (by decide) (by decide),
    decode_stream 0 0xA1 [0x23, 0x45] (by decide), rfl, rfl⟩

/-! ### A placed header-map word (R117; 42 R160, R161) -/

/-- R180: the packet a payload decodes to runs as CLASSIFY of that payload. -/
theorem exec_of_decode {now : Rat} {p : Payload} {i : Instr} (decoded : decode now p.bytes = .ok i) (s : State) :
    exec i s = complete .none (s.classify p now) := by
  obtain ⟨hdr, rest⟩ := p
  rcases decode_cases decoded with ⟨_, _, ⟨rfl, rfl⟩, hm, rfl⟩ | ⟨_, seq, body, id, ⟨rfl, rfl⟩, hm, rfl⟩ |
    ⟨_, seq, body, ⟨rfl, rfl⟩, hm, lo, rfl⟩
  · simp only [State.classify, hm, if_true]
    rfl
  · rw [exec_controlInstr]
    simp [State.classify, State.ctrl, hm, id]
  · have id_hdr : (hdr.extractLsb' 0 7).setWidth 8 = hdr := by
      rw [← append_eq_setWidth, append_controlId hm]
    have id_val : (hdr.extractLsb' 0 7).toNat = hdr.toNat := by
      rw [← append_toNat, append_controlId hm]
    have unassigned : 19 ≤ hdr.toNat := lo
    have control : hdr.msb = false := hm
    simp [exec, execCtrlUnassigned, State.classify, State.ctrl, id_hdr, id_val, control, unassigned,
      not_lt.2 unassigned]

/-- R158, R161: the step of a trailing byte that is not rejected decodes the payload after outputting the frame. -/
theorem State.rxByte_accepted {s : State} {b : Byte} {hdr : Byte} {rest : List Byte} (trail : s.st = .readTrail)
    (payload : s.pay = hdr :: rest) (accepted : ¬(s.verifyEn = true ∧ b ≠ 0 ∧ b ≠ s.cks)) (now : Rat) :
    s.rxByte b now = (((s.output (.frame (hdr :: rest))).classify ⟨hdr, rest⟩ now).toSeek).keepRaw b := by
  rw [State.rxByte_readTrail trail, State.completeFrame]
  rcases s.judge_cases b now with ⟨empty, _⟩ | ⟨_, verify, checked, mismatch, _⟩ | ⟨hdr', rest', pay, _, e⟩
  · simp [empty] at payload
  · exact absurd ⟨verify, checked, mismatch⟩ accepted
  · obtain ⟨rfl, rfl⟩ := List.cons.inj (payload.symm.trans pay)
    rw [e]

theorem decodeTableWord_eq_some_iff {nbits w : Nat} {i : Instr} :
    decodeTableWord nbits w = some i ↔ decode 0 (tableWordBytes nbits w) = .ok i := by
  unfold decodeTableWord
  cases decode 0 (tableWordBytes nbits w) <;> simp

theorem exists_cons_of_decode {now : Rat} {p : List Byte} {i : Instr} (decoded : decode now p = .ok i) :
    ∃ hdr rest, p = hdr :: rest := by
  cases p with
  | nil => cases decoded
  | cons hdr rest => exact ⟨hdr, rest, rfl⟩

/-- The packet decoder leaves the registers that it does not use at the values they have. -/
theorem State.classify_eq_graft (s : State) (p : Payload) (now : Rat) :
    s.classify p now = s.graft (s.classify p now) :=
  State.classify_graft s s p now

theorem step_withFetchWord (s : State) (nbits w : Nat) :
    step (s.withFetchWord nbits w) = exec (.rxbyte 0 0) { s.placeTableWord nbits w with inbox := s.inbox } :=
  step_of_inbox_cons (e := .rxbyte 0 0) rfl

/-- R160, R161: the placed trailing byte is 0, "unchecked", so its step accepts the frame; and the packet decoder does
not use the scanner's registers, the only ones that the placing changed. -/
theorem rxByte_placedTableWord {s : State} {nbits w : Nat} {hdr : Byte} {rest : List Byte}
    (payload : tableWordBytes nbits w = hdr :: rest) :
    State.rxByte 0 0 { s.placeTableWord nbits w with inbox := s.inbox } =
      { (s.output (.frame (hdr :: rest))).classify ⟨hdr, rest⟩ 0 with
        st := .seekStart, esc := false, cks := 0, pay := [], raw := [] } := by
  rw [State.rxByte_accepted rfl payload (by simp)]
  have same : { s.placeTableWord nbits w with inbox := s.inbox } =
      State.graft { s.placeTableWord nbits w with inbox := s.inbox } s := rfl
  rw [same, State.output_graft, State.classify_graft, State.classify_eq_graft (s.output _)]
  rfl

/-- Settles O9: the frame's step and the decoded instruction both run CLASSIFY of the word's payload. -/
theorem placedTableWordRunsNext : Obligations.PlacedTableWordRunsNext := by
  intro s nbits w i word
  have decoded := decodeTableWord_eq_some_iff.1 word
  obtain ⟨hdr, rest, payload⟩ := exists_cons_of_decode decoded
  rw [payload] at decoded ⊢
  refine ⟨_, exec_of_decode (p := ⟨hdr, rest⟩) decoded _, ?_⟩
  rw [step_withFetchWord, exec_rxbyte, rxByte_placedTableWord payload]
  rfl

end Sys2Proof.Machine
end

section
/-! PROOFS. 41_codec.md: the checksum (R130 to R132), ESCAPE and UNESCAPE (R133 to R136), BUILDFRAME (R137), the
sequence counter and SEND (R138 to R140). -/

namespace Sys2Proof.Machine

/-! ### CKSUM (R130 to R132) -/

/-- R130 with the accumulator at any value: `ckstep_toNat` at each byte. -/
theorem foldl_ckstep_toNat (bytes : List Byte) (a : Byte) :
    (bytes.foldl ckstep a).toNat =
      bytes.foldl (fun a b => ((a * 2) % 256 + a / 128 + b.toNat) % 256) a.toNat := by
  induction bytes generalizing a with
  | nil => rfl
  | cons b bytes ih => rw [List.foldl_cons, List.foldl_cons, ih, ckstep_toNat]

theorem ckstep_zero_left (b : Byte) : ckstep 0 b = b := by
  simp [ckstep, rotl8]

/-- R130: a leading zero byte leaves the accumulator at its initial 0. -/
theorem cksum_zeros_append (n : Nat) (bytes : List Byte) : cksum (List.replicate n 0 ++ bytes) = cksum bytes := by
  induction n with
  | zero => rfl
  | succ n ih => exact ih

/-- Settles O15: the result is `cksum`, read step by step in the naturals. -/
theorem cksumIsRotateThenAdd : Obligations.CksumIsRotateThenAdd := by
  refine ⟨fun s bytes => ⟨cksum bytes, rfl, foldl_ckstep_toNat bytes 0⟩, rfl, ckstep_zero_left, fun n => ?_,
    cksum_zeros_append, by decide⟩
  simpa using cksum_zeros_append n []

/-- A byte with one bit flipped is another byte. -/
theorem xor_twoPow_ne (b : Byte) {k : Nat} (bit : k < 8) : b ^^^ BitVec.ofNat 8 (2 ^ k) ≠ b := by
  intro same
  have zero : BitVec.ofNat 8 (2 ^ k) = 0#8 := by simpa using same
  have val := congrArg BitVec.toNat zero
  rw [BitVec.toNat_ofNat, Nat.mod_eq_of_lt (Nat.pow_lt_pow_right (by omega) bit)] at val
  exact (Nat.two_pow_pos k).ne' val

/-- R132: a change in one byte changes the accumulator after it, and every later step is injective. -/
theorem cksum_single_change {b c : Byte} (changed : b ≠ c) (pre post : List Byte) :
    cksum (pre ++ [b] ++ post) ≠ cksum (pre ++ [c] ++ post) := by
  intro same
  rw [cksum_append, cksum_snoc, cksum_append _ post, cksum_snoc] at same
  exact changed (ckstep_right_injective _ (foldl_ckstep_injective post same))

theorem ckstep_left_bijective (b : Byte) : Function.Bijective fun a => ckstep a b :=
  Finite.injective_iff_bijective.1 (ckstep_left_injective b)

/-- Settles O16: the flipped byte is another byte, and neither its step nor a later one loses the difference. -/
theorem cksumDetectsEverySingleBitFlip : Obligations.CksumDetectsEverySingleBitFlip :=
  ⟨fun pre post b _ bit => cksum_single_change (xor_twoPow_ne b bit) pre post, ckstep_left_bijective, by decide,
    by decide, fun x => cksum_zeros_append 1 [x]⟩

/-! ### ESCAPE (R133, R134) -/

/-- R134: what the two replacements make of one byte is what the one pass makes of it. -/
theorem escapeByte_eq_escFirst {P : Params} (distinct : P.eop ≠ P.esc) (b : Byte) :
    ((if b = P.esc then [P.esc, P.esc] else [b]).flatMap fun b => if b = P.eop then [P.esc, P.eop] else [b]) =
      escapeByte P b := by
  by_cases esc : b = P.esc
  · simp [escapeByte, esc, distinct.symm]
  · by_cases eop : b = P.eop
    · simp [escapeByte, eop, distinct]
    · simp [escapeByte, esc, eop]

/-- The two replacements in the order that R134 warns of: `EOP` first. -/
def escapeEopFirst (P : Params) (bytes : List Byte) : List Byte :=
  (bytes.flatMap fun b => if b = P.eop then [P.esc, P.eop] else [b]).flatMap
    fun b => if b = P.esc then [P.esc, P.esc] else [b]

theorem escapeEopFirst_cons (P : Params) (b : Byte) (bytes : List Byte) :
    escapeEopFirst P (b :: bytes) = escapeEopFirst P [b] ++ escapeEopFirst P bytes := by
  simp [escapeEopFirst]

/-- R134: the `ESC` put before an `EOP` is doubled. -/
theorem escapeEopFirst_singleton_length {P : Params} (distinct : P.eop ≠ P.esc) (b : Byte) :
    (escapeEopFirst P [b]).length = (escapeByte P b).length + if b = P.eop then 1 else 0 := by
  by_cases eop : b = P.eop
  · simp [escapeEopFirst, escapeByte, eop, distinct]
  · by_cases esc : b = P.esc <;> simp [escapeEopFirst, escapeByte, esc, eop, distinct.symm]

/-- R134: in that order the result is longer by one byte for each `EOP`. -/
theorem escapeEopFirst_length {P : Params} (distinct : P.eop ≠ P.esc) (bytes : List Byte) :
    (escapeEopFirst P bytes).length = (escape P bytes).length + bytes.count P.eop := by
  induction bytes with
  | nil => rfl
  | cons b bytes ih =>
    rw [escapeEopFirst_cons, List.length_append, ih, escapeEopFirst_singleton_length distinct, escape_cons,
      List.length_append, List.count_cons]
    simp only [beq_iff_eq]
    omega

theorem escapeByte_length (P : Params) (b : Byte) :
    (escapeByte P b).length = 1 + if b == P.eop || b == P.esc then 1 else 0 := by
  by_cases special : b = P.esc ∨ b = P.eop
  · simp [escapeByte, special, or_comm (a := b = P.eop)]
  · simp [escapeByte, special, or_comm (a := b = P.eop)]

theorem escape_length (P : Params) (bytes : List Byte) :
    (escape P bytes).length = bytes.length + bytes.countP (fun b => b == P.eop || b == P.esc) := by
  induction bytes with
  | nil => rfl
  | cons b bytes ih =>
    rw [escape_cons, List.length_append, escapeByte_length, ih, List.length_cons, List.countP_cons]
    omega

/-- Settles O17: byte by byte for the right order; in the other order the result is longer by the number of `EOP`s. -/
theorem escapeIsTheTwoOrderedReplacements : Obligations.EscapeIsTheTwoOrderedReplacements := by
  intro s bytes ⟨distinct, _⟩
  refine ⟨?_, rfl, escape_length s.par bytes, fun eop same => ?_⟩
  · rw [List.flatMap_assoc]
    simp only [escapeByte_eq_escFirst distinct]
    simp [exec, execEscape, complete, State.after, State.withResult, escape]
  · have same_length : (escape s.par bytes).length = (escapeEopFirst s.par bytes).length := congrArg List.length same
    have longer := escapeEopFirst_length distinct bytes
    have some_eop := List.count_pos_iff.2 eop
    omega

/-! ### UNESCAPE (R135, R136) -/

theorem unescape_nil (P : Params) : unescape P [] = [] := rfl

theorem unescape_dangling (P : Params) : unescape P [P.esc] = [] := by
  simp [unescape, unescapeRun, unescapeStep]

theorem unescape_escaped (P : Params) (x : Byte) (rest : List Byte) :
    unescape P (P.esc :: x :: rest) = x :: unescape P rest := by
  simp only [unescape, unescapeRun, List.foldl_cons, unescapeStep, Bool.false_eq_true, if_false, if_true]
  rw [foldl_unescapeStep_out]
  rfl

theorem unescape_plain {P : Params} {b : Byte} (not_esc : b ≠ P.esc) (rest : List Byte) :
    unescape P (b :: rest) = b :: unescape P rest := by
  simp only [unescape, unescapeRun, List.foldl_cons, unescapeStep, Bool.false_eq_true, if_false, not_esc]
  rw [foldl_unescapeStep_out]
  rfl

/-- Settles O18: an equation for each form of the bytes read. -/
theorem unescapeReadsByteByByte : Obligations.UnescapeReadsByteByByte :=
  ⟨fun _ _ => rfl, fun P => ⟨unescape_nil P, unescape_dangling P, unescape_escaped P,
    fun _ rest not_esc => unescape_plain not_esc rest⟩⟩

theorem escape_snoc (P : Params) (bytes : List Byte) (b : Byte) :
    escape P (bytes ++ [b]) = escape P bytes ++ escapeByte P b := by
  simp [escape]

/-- R136: the loop over an escaped sequence outputs the sequence and ends with no escape pending. -/
theorem unescapeRun_escape (P : Params) (bytes : List Byte) : unescapeRun P (escape P bytes) = (bytes, false) := by
  induction bytes using List.reverseRecOn with
  | nil => rfl
  | append_singleton bytes b ih =>
    rw [escape_snoc, unescapeRun_append, ih, foldl_unescapeStep_escapeByte]

theorem unescape_escape (P : Params) (bytes : List Byte) : unescape P (escape P bytes) = bytes := by
  rw [unescape, unescapeRun_escape]

theorem noOpenEop_nil (P : Params) : NoOpenEop P [] := by
  intro u v h
  simp at h

/-- One byte more leaves no unescaped `EOP`, unless it is one itself. -/
theorem NoOpenEop.snoc {P : Params} {w : List Byte} (closed : NoOpenEop P w) {b : Byte}
    (escaped : b = P.eop → (unescapeRun P w).2 = true) : NoOpenEop P (w ++ [b]) := by
  intro u v split
  rcases List.eq_nil_or_concat v with rfl | ⟨v, c, rfl⟩
  · obtain ⟨rfl, last⟩ := List.append_inj' split rfl
    exact escaped (List.singleton_inj.1 last)
  · rw [List.concat_eq_append, ← List.cons_append, ← List.append_assoc] at split
    exact closed u v (List.append_inj' split rfl).1

theorem noOpenEop_escape {P : Params} (distinct : P.eop ≠ P.esc) (bytes : List Byte) :
    NoOpenEop P (escape P bytes) := by
  induction bytes using List.reverseRecOn with
  | nil => exact noOpenEop_nil P
  | append_singleton bytes b ih =>
    rw [escape_snoc, escapeByte]
    split
    next special =>
      have marker := ih.snoc (b := P.esc) fun eop => absurd eop.symm distinct
      have pending : (unescapeRun P (escape P bytes ++ [P.esc])).2 = true := by
        rw [unescapeRun_snoc, unescapeRun_escape]
        simp [unescapeStep]
      simpa using marker.snoc (b := b) fun _ => pending
    next ordinary => exact ih.snoc fun eop => absurd (.inr eop) ordinary

/-- Settles O19: `unescape_escape` and `noOpenEop_escape`; the converse fails on a lone `ESC`, which UNESCAPE drops. -/
theorem unescapeInvertsEscape : Obligations.UnescapeInvertsEscape := by
  intro s ⟨distinct, _⟩
  refine ⟨fun bytes => ⟨?_, noOpenEop_escape distinct bytes⟩, [s.par.esc], ?_⟩
  · rw [unescapeReadsByteByByte.1, unescape_escape]
  · rw [unescape_dangling, escape_nil]
    exact (List.cons_ne_nil _ _).symm

/-! ### BUILDFRAME (R137) -/

/-- The bytes of a word, most significant first, as quotients (00_scope.md R11). -/
theorem bytesBe32_eq_ofNat (w : Word) : bytesBe32 w =
    [BitVec.ofNat 8 (w.toNat / 2 ^ 24), BitVec.ofNat 8 (w.toNat / 2 ^ 16), BitVec.ofNat 8 (w.toNat / 2 ^ 8),
      BitVec.ofNat 8 w.toNat] := by
  simp [bytesBe32, BitVec.extractLsb', Nat.shiftRight_eq_div_pow]

/-- Settles O20, by the quotient form of a word's bytes. -/
theorem buildframeWritesTheWireFrame : Obligations.BuildframeWritesTheWireFrame := by
  intro s id seq words
  simp only [← bytesBe32_eq_ofNat]
  rfl

/-! ### TXSEQ and SEND (R138 to R140) -/

theorem nextSeq_toNat (n : Byte) : (nextSeq n).toNat = if n.toNat = 255 then 1 else n.toNat + 1 := by
  unfold nextSeq
  by_cases wraps : n = 255
  · simp [wraps]
  · have below : n.toNat ≠ 255 := fun val => wraps (BitVec.eq_of_toNat_eq val)
    rw [if_neg wraps, if_neg below]
    bv_omega

/-- R139: the values that follow 0 are 1, 2, ..., 255, and then 1 again. -/
theorem nextSeq_iterate_zero (k : Nat) : (nextSeq^[k + 1] 0).toNat = k % 255 + 1 := by
  induction k with
  | zero => rfl
  | succ k ih =>
    rw [Function.iterate_succ_apply', nextSeq_toNat, ih]
    split <;> omega

theorem nameTable_nodup : nameTable.Nodup := by decide

theorem resolve_id {k : Nat} (assigned : k < 19) : resolve (.id k) = some ⟨k, assigned⟩ := by
  simp [resolve, assigned]

/-- R138: no two messages have the same name, so a name resolves to the ordinal at which it stands. -/
theorem resolve_name {k : Nat} {nm : String} (assigned : k < 19) (named : nameTable[k]? = some nm) :
    resolve (.name nm) = some ⟨k, assigned⟩ := by
  rcases resolve_cases (.name nm) with ⟨id, known, h | ⟨_, h, named'⟩⟩ | ⟨_, ⟨_, h, absent⟩ | ⟨_, h, _⟩⟩ <;> cases h
  · have same : id.val = k := (List.getElem?_inj id.isLt nameTable_nodup).1 (named'.trans named.symm)
    rw [known, Option.some.injEq]
    exact Fin.ext same
  · exact absurd (List.mem_of_getElem? named) absent

theorem resolve_eq_none {m : MsgRef} (unknown : (∃ nm, m = .name nm ∧ nm ∉ nameTable) ∨ ∃ k, m = .id k ∧ 18 < k) :
    resolve m = none := by
  rcases resolve_cases m with ⟨id, _, known⟩ | ⟨none, _⟩
  · rcases unknown with ⟨nm, rfl, absent⟩ | ⟨k, rfl, beyond⟩ <;> rcases known with h | ⟨_, h, named⟩ <;> cases h
    · exact absurd (List.mem_of_getElem? named) absent
    · omega
  · exact none

/-- SEND of a known message (R140). -/
theorem exec_send_of_resolve {m : MsgRef} {id : MsgId} (known : resolve m = some id) (value : Option Word) (s : State) :
    exec (.send m value) s = .next ((s.sendFrame id value).withResult (.sent true)) := by
  simp only [exec, execSend, known]
  rfl

/-- SEND of an unknown message (R138, R140). -/
theorem exec_send_of_unresolved {m : MsgRef} (unknown : resolve m = none) (value : Option Word) (s : State) :
    exec (.send m value) s = .next ((s.emit (.unknownMessageName m)).withResult (.sent false)) := by
  simp only [exec, execSend, unknown]
  rfl

/-- Settles O21, by what one step of the counter does and by what SEND does on an assigned id. -/
theorem txseqCyclesThrough1To255 : Obligations.TxseqCyclesThrough1To255 :=
  ⟨fun s => ⟨nextSeq s.txSeq, rfl, nextSeq_toNat s.txSeq⟩, nextSeq_iterate_zero,
    fun s _ value assigned => ⟨_, exec_send_of_resolve (resolve_id assigned) value s, rfl, rfl⟩⟩

/-- Settles O22, by what SEND does on a message that resolves and on one that does not. -/
theorem sendResolvesAndTransmits : Obligations.SendResolvesAndTransmits := by
  refine ⟨fun s m value k assigned known => ?_, fun s m value unknown =>
    exec_send_of_unresolved (resolve_eq_none unknown) value s⟩
  have resolved : resolve m = some ⟨k, assigned⟩ := by
    rcases known with rfl | ⟨nm, rfl, named⟩
    · exact resolve_id assigned
    · exact resolve_name assigned named
  refine ⟨nextSeq s.txSeq, _, nextSeq_toNat s.txSeq, rfl, ?_⟩
  rw [exec_send_of_resolve resolved]
  cases value <;> rfl

end Sys2Proof.Machine
end

section
/-! PROOFS. 41_codec.md R141: a frame that SEND built, fed back to the scanner (42_scanner.md R151 to R168), gives the
message back. -/

namespace Sys2Proof.Machine

/-! ### A received frame run through the scanner (42_scanner.md R168) -/

/-- `s` with other events presented and another returned value. -/
def State.queued (inbox : List Event) (r : Result) (s : State) : State := { s with inbox := inbox, result := r }

/-- What becomes of a frame depends neither on the events presented nor on the returned value. -/
theorem State.judge_queued (b : Byte) (now : Rat) (q : List Event) (r : Result) (s : State) :
    (s.queued q r).judge b now = (s.judge b now).queued q r := by
  unfold State.judge
  rw [show verdict (s.queued q r).verifyEn (s.queued q r).cks (s.queued q r).pay b =
    verdict s.verifyEn s.cks s.pay b from rfl]
  cases verdict s.verifyEn s.cks s.pay b with
  | empty => rfl
  | rejected => rfl
  | accepted p =>
    have own := (s.output (.frame p.bytes)).classify_eq_graft p now
    exact (State.classify_graft ((s.queued q r).output (.frame p.bytes)) (s.output (.frame p.bytes)) p now).trans
      (congrArg (State.queued q r) own.symm)

theorem State.rxByte_queued (b : Byte) (now : Rat) (q : List Event) (r : Result) (s : State) :
    (s.queued q r).rxByte b now = (s.rxByte b now).queued q r := by
  by_cases trail : s.st = .readTrail
  · rw [State.rxByte_readTrail trail, State.rxByte_readTrail (s := s.queued q r) trail, State.completeFrame,
      State.judge_queued]
    rfl
  · have own : s.rxByte b now = s.scannerFrom (s.rxByte b now) := State.rxByte_scannerFrom trail s b now
    rw [own]
    exact State.rxByte_scannerFrom trail (s.queued q r) b now

/-- A received byte as the input event it is. -/
def rxEvent (x : RxByte) : Event := .rxbyte x.b x.now

/-- Received bytes, the `k`-th at host time `clock k`. -/
def rxBytes (clock : Nat → Rat) (wire : List Byte) : List RxByte := wire.mapIdx fun k b => ⟨b, clock k⟩

theorem rxEvents_eq_map (clock : Nat → Rat) (wire : List Byte) :
    rxEvents clock wire = (rxBytes clock wire).map rxEvent := by
  apply List.ext_getElem?
  simp [rxEvents, rxBytes, rxEvent, Function.comp_def]

theorem rxBytes_map_b (clock : Nat → Rat) (wire : List Byte) : (rxBytes clock wire).map (·.b) = wire := by
  apply List.ext_getElem?
  simp [rxBytes, Function.comp_def]

theorem run_of_step {s t : State} (stepped : step s = .next t) (k : Nat) : core.run (k + 1) s = core.run k t := by
  have inside : core.step s = .next t := stepped
  simp only [Host.Core.run, inside]

/-- A run whose next input event is a received byte. -/
theorem run_rxEvent (k : Nat) (x : RxByte) (q : List Event) (r : Result) (s : State) :
    core.run (k + 1) (s.queued (rxEvent x :: q) r) = core.run k ((s.rxByte x.b x.now).queued q .none) := by
  refine run_of_step ?_ k
  rw [step_of_inbox_cons (e := rxEvent x) rfl]
  exact congrArg (complete .none) (s.rxByte_queued x.b x.now q r)

/-- A run over a non-empty sequence of received bytes is RXBYTE on each. -/
theorem run_rxEvents (x : RxByte) (xs : List RxByte) (q : List Event) (r : Result) (s : State) :
    core.run (xs.length + 1) (s.queued ((x :: xs).map rxEvent ++ q) r) =
      .next ((s.rxAll (x :: xs)).queued q .none) := by
  induction xs generalizing x r s with
  | nil => exact run_rxEvent 0 x q r s
  | cons y ys ih =>
    rw [List.map_cons, List.cons_append, List.length_cons, run_rxEvent]
    exact ih y .none (s.rxByte x.b x.now)

/-- `s` with its scanner inside a payload: the wire bytes `w` so far, after the frame's bytes `opening`, hold the
payload bytes `p`, and no escape is pending. -/
def State.reading (s : State) (opening p w : List Byte) : State :=
  { s with st := .collecting, esc := false, cks := cksum w, pay := p, raw := opening ++ w }

/-- R151, R153: the delimiter and the lead byte open a frame. -/
theorem State.rxByte_opening {s : State} (seek : s.st = .seekStart) (lead : Byte) (now now' : Rat) :
    (s.rxByte s.par.eop now).rxByte lead now' = s.reading (s.raw ++ [s.par.eop, lead]) [] [] := by
  rw [State.rxByte_seek_eop seek rfl, State.rxByte_readLead rfl]
  simp [State.keepRaw, State.openFrame, State.startCollect, State.reading, cksumInit]

/-- R157. -/
theorem State.rxByte_reading_data {s : State} {b : Byte} (not_eop : b ≠ s.par.eop) (not_esc : b ≠ s.par.esc)
    (opening p w : List Byte) (now : Rat) :
    (s.reading opening p w).rxByte b now = s.reading opening (p ++ [b]) (w ++ [b]) := by
  rw [State.rxByte_data (s := s.reading opening p w) rfl rfl not_eop not_esc]
  simp [State.keepRaw, State.collectData, State.reading, cksum_snoc]

/-- R155, R154: an escape and the byte after it, whatever that is. -/
theorem State.rxByte_reading_escaped {s : State} (distinct : s.par.eop ≠ s.par.esc) (b : Byte)
    (opening p w : List Byte) (now now' : Rat) :
    ((s.reading opening p w).rxByte s.par.esc now).rxByte b now' =
      s.reading opening (p ++ [b]) (w ++ [s.par.esc, b]) := by
  rw [State.rxByte_esc (s := s.reading opening p w) rfl rfl distinct.symm rfl, State.rxByte_escaped rfl rfl]
  simp [State.keepRaw, State.collectEsc, State.collectEscaped, State.reading, cksum_append]

theorem State.rxAll_escapeByte {s : State} (distinct : s.par.eop ≠ s.par.esc) {b : Byte} {buf : List RxByte}
    (wire : buf.map (·.b) = escapeByte s.par b) (opening p w : List Byte) :
    (s.reading opening p w).rxAll buf = s.reading opening (p ++ [b]) (w ++ escapeByte s.par b) := by
  by_cases special : b = s.par.esc ∨ b = s.par.eop
  · rw [escapeByte, if_pos special] at wire ⊢
    obtain ⟨x, _, rfl, esc, wire⟩ := List.map_eq_cons_iff.1 wire
    obtain ⟨y, rfl, rfl⟩ := List.map_eq_singleton_iff.1 wire
    rw [State.rxAll_cons, esc]
    exact State.rxByte_reading_escaped distinct y.b opening p w x.now y.now
  · rw [escapeByte, if_neg special] at wire ⊢
    obtain ⟨x, rfl, rfl⟩ := List.map_eq_singleton_iff.1 wire
    obtain ⟨not_esc, not_eop⟩ := not_or.1 special
    exact State.rxByte_reading_data not_eop not_esc opening p w x.now

/-- R168: the escaped form of a payload is read as that payload. -/
theorem State.rxAll_escape {s : State} (distinct : s.par.eop ≠ s.par.esc) {bytes : List Byte} {buf : List RxByte}
    (wire : buf.map (·.b) = escape s.par bytes) (opening p w : List Byte) :
    (s.reading opening p w).rxAll buf = s.reading opening (p ++ bytes) (w ++ escape s.par bytes) := by
  induction bytes generalizing buf p w with
  | nil =>
    obtain rfl := List.map_eq_nil_iff.1 wire
    simp
  | cons b bytes ih =>
    obtain ⟨front, back, rfl, first, others⟩ := List.map_eq_append_iff.1 wire
    rw [State.rxAll_append, State.rxAll_escapeByte distinct first, ih others]
    simp

/-- R156, R158, R161: the closing delimiter and a trailing byte that is not rejected end the frame, output it and decode
it. -/
theorem State.rxByte_closing (s : State) {opening w : List Byte} {p : Payload} {b : Byte}
    (accepted : ¬(s.verifyEn = true ∧ b ≠ 0 ∧ b ≠ cksum w)) (now now' : Rat) :
    ((s.reading opening p.bytes w).rxByte s.par.eop now).rxByte b now' =
      ((s.output (.frame p.bytes)).classify p now').scannerReset := by
  rw [State.rxByte_close (s := s.reading opening p.bytes w) (b := s.par.eop) rfl rfl rfl,
    State.rxByte_accepted rfl rfl accepted]
  have own := (s.output (.frame p.bytes)).classify_eq_graft p now'
  have same : (((s.reading opening p.bytes w).closePayload).keepRaw s.par.eop).output (.frame p.bytes) =
      State.graft (((s.reading opening p.bytes w).closePayload).keepRaw s.par.eop) (s.output (.frame p.bytes)) := rfl
  rw [same, State.classify_graft, own]
  rfl

/-- R168, R161, R162: a well-formed frame of a non-empty payload, received in `SeekStart`, outputs and decodes exactly
that payload. -/
theorem State.rxAll_frame {s : State} (seek : s.st = .seekStart) (distinct : s.par.eop ≠ s.par.esc) {p : Payload}
    {body : List RxByte} (wire : body.map (·.b) = escape s.par p.bytes) (lead : Byte) (n0 n1 n2 n3 : Rat) :
    s.rxAll (⟨s.par.eop, n0⟩ :: ⟨lead, n1⟩ :: (body ++ [⟨s.par.eop, n2⟩, ⟨cksum (escape s.par p.bytes), n3⟩])) =
      ((s.output (.frame p.bytes)).classify p n3).scannerReset := by
  rw [State.rxAll_cons, State.rxAll_cons, State.rxByte_opening seek, State.rxAll_append,
    State.rxAll_escape distinct wire]
  exact s.rxByte_closing (by simp) n2 n3

theorem rxBytes_wireFrame (P : Params) (clock : Nat → Rat) (lead : Byte) (e : List Byte) :
    rxBytes clock (wireFrame P lead e) = ⟨P.eop, clock 0⟩ :: ⟨lead, clock 1⟩ ::
      (rxBytes (fun k => clock (k + 2)) e ++
        [⟨P.eop, clock (e.length + 2)⟩, ⟨cksum e, clock (e.length + 3)⟩]) := by
  simp [rxBytes, wireFrame, List.mapIdx_append, List.mapIdx_cons, Nat.add_assoc, Nat.add_comm 1]

/-- R168 over the steps of the block: a frame among the events presented to a scanner in `SeekStart`. -/
theorem run_wireFrame {s : State} (seek : s.st = .seekStart) (distinct : s.par.eop ≠ s.par.esc) (p : Payload)
    (lead : Byte) (clock : Nat → Rat) (q : List Event) (r : Result) :
    core.run (wireFrame s.par lead (escape s.par p.bytes)).length
        (s.queued (rxEvents clock (wireFrame s.par lead (escape s.par p.bytes)) ++ q) r) =
      .next ((((s.output (.frame p.bytes)).classify p
        (clock ((escape s.par p.bytes).length + 3))).scannerReset).queued q .none) := by
  have len : (rxBytes clock (wireFrame s.par lead (escape s.par p.bytes))).length =
    (wireFrame s.par lead (escape s.par p.bytes)).length := by simp [rxBytes]
  rw [rxEvents_eq_map, ← len, rxBytes_wireFrame, List.length_cons, run_rxEvents,
    State.rxAll_frame seek distinct (rxBytes_map_b _ _)]

/-! ### The control packet of a payload that BUILDFRAME framed -/

theorem wordsOf_flatMap_bytesBe32 (words : List Word) : wordsOf (words.flatMap bytesBe32) = words := by
  simpa using wordsOf_flatMap_append words [] (by simp)

/-- R141, R183: CLASSIFY runs a payload of BUILDFRAME as the control packet it was built for. -/
theorem State.classify_framePayload (id : MsgId) (seq : Byte) (words : List Word) (now : Rat) (s : State) :
    s.classify ⟨BitVec.ofNat 8 id.val, seq :: words.flatMap bytesBe32⟩ now = s.control id seq words now := by
  have hdr := ofNat_msgId_toNat id
  have control : (BitVec.ofNat 8 id.val).msb = false := by
    rw [msb_eq_false_iff]
    omega
  simp [State.classify, State.ctrl, control, hdr, wordsOf_flatMap_bytesBe32]

@[simp] theorem State.control_lastSeq (id : MsgId) (seq : Byte) (words : List Word) (now : Rat) (s : State) :
    (s.control id seq words now).lastSeq = seq := by
  unfold State.control
  split <;> simp

/-- R185, R199: the packet is output before the clock is driven. -/
theorem State.deliver_outs_prefix_control (id : MsgId) (seq : Byte) (words : List Word) (now : Rat) (s : State) :
    s.outs ++ [.ctrl id seq words] <+: (s.control id seq words now).outs := by
  unfold State.control
  split
  · exact State.syncPacket_appends words now (s.deliver id seq words)
  · exact List.prefix_rfl

/-! ### A sent frame received back (R141) -/

/-- A run whose next input event is SEND of a known message. -/
theorem run_send {m : MsgRef} {id : MsgId} (known : resolve m = some id) (value : Option Word) (k : Nat)
    (q : List Event) {s : State} :
    core.run (1 + k) { s with inbox := .send m value :: q } =
      core.run k ((s.sendFrame id value).queued q (.sent true)) := by
  rw [Nat.add_comm]
  refine run_of_step ?_ k
  rw [step_of_inbox_cons (e := .send m value) rfl]
  exact exec_send_of_resolve known value _

/-- SEND and then the bytes of the frame it output: the frame is output, and its control packet is what CTRL would
decode. -/
theorem run_send_then_frame {s : State} {m : MsgRef} {id : MsgId} (seek : s.st = .seekStart)
    (distinct : s.par.eop ≠ s.par.esc) (known : resolve m = some id) (value : Option Word) (clock : Nat → Rat)
    (rest : List Event) :
    let n := nextSeq s.txSeq
    let payload := framePayload (BitVec.ofNat 8 id.val) n value.toList
    let frame := buildFrame s.par (BitVec.ofNat 8 id.val) n value.toList
    ∃ now, core.run (1 + frame.length) { s with inbox := .send m value :: rxEvents clock frame ++ rest } =
      .next (((((s.sendFrame id value).output (.frame payload)).control id n value.toList now).scannerReset).queued rest
        .none) := by
  intro n payload frame
  have received := run_wireFrame (s := s.sendFrame id value) seek distinct
    ⟨BitVec.ofNat 8 id.val, n :: value.toList.flatMap bytesBe32⟩ txLeadByte clock rest (.sent true)
  rw [State.classify_framePayload] at received
  exact ⟨_, (run_send known value _ _).trans received⟩

/-- Settles O32: after SEND the scanner is still in `SeekStart`, so the frame is read as its payload, which decodes to
the packet sent; only `sync` does more than deliver it. -/
theorem sentFrameIsReceivedBack : Obligations.SentFrameIsReceivedBack := by
  intro s m value id clock rest seek ⟨distinct, _⟩ known
  obtain ⟨now, run⟩ := run_send_then_frame seek distinct known value clock rest
  have delivered := State.deliver_outs_prefix_control id (nextSeq s.txSeq) value.toList now
    ((s.sendFrame id value).output (.frame (framePayload (BitVec.ofNat 8 id.val) (nextSeq s.txSeq) value.toList)))
  refine ⟨_, _, _, _, rfl, rfl, rfl, run, ?_, fun not_sync => ?_, State.control_lastSeq .., State.control_txSeq ..,
    rfl, rfl⟩
  · simpa [State.queued, State.scannerReset] using delivered
  · simp [State.queued, State.scannerReset, State.control_of_ne not_sync]

end Sys2Proof.Machine
end

section
/-! PROOFS. 42_scanner.md: the rows of the transition table (R150 to R164), the invariants of the scanner's registers
(R167, R168, R170), the restart law (R166, R169), and a well-formed frame recovered (R168). -/

namespace Sys2Proof.Machine

/-! ### The rows of the transition table (R151 to R162) -/

/-- Settles O23: RXBYTE by its rows, and `raw` by the scanner state after each. -/
theorem scannerTransitionsBeforeTheTrailingByte : Obligations.ScannerTransitionsBeforeTheTrailingByte := by
  intro s b now
  simp only [exec_rxbyte, Host.Outcome.next.injEq]
  refine ⟨fun st eop => ?_, fun st eop => ?_, fun st => ?_, fun st esc => ?_, fun st esc eop escape => ?_,
    fun st esc eop => ?_, fun st esc eop escape => ?_⟩
  · rw [State.rxByte_seek_eop st eop]; rfl
  · rw [State.rxByte_seek_other st eop]; simp [State.keepRaw, State.withResult, st]
  · rw [State.rxByte_readLead st]; rfl
  · rw [State.rxByte_escaped st esc]; simp [State.keepRaw, State.collectEscaped, State.withResult, st]
  · rw [State.rxByte_esc st esc eop escape]; simp [State.keepRaw, State.collectEsc, State.withResult, st, escape]
  · rw [State.rxByte_close st esc eop]; rfl
  · rw [State.rxByte_data st esc eop escape]; simp [State.keepRaw, State.collectData, State.withResult, st]

/-- R162: frame completion leaves the scanner's registers at their reset values, whatever became of the frame. -/
theorem State.rxByte_trail {s : State} (trail : s.st = .readTrail) (b : Byte) (now : Rat) :
    s.rxByte b now = (s.judge b now).scannerReset := by
  rw [State.rxByte_readTrail trail]
  rfl

/-- R159. -/
theorem State.judge_empty {s : State} (empty : s.pay = []) (b : Byte) (now : Rat) :
    s.judge b now = s.emit .emptyPayload := by
  rw [State.judge, empty]
  rfl

/-- R160. -/
theorem State.judge_rejected {s : State} {b : Byte} (payload : s.pay ≠ [])
    (rejected : s.verifyEn = true ∧ b ≠ 0 ∧ b ≠ s.cks) (now : Rat) :
    s.judge b now = s.emit (.badChecksum b s.cks s.pay.length) := by
  rcases s.judge_cases b now with ⟨empty, _⟩ | ⟨_, _, _, _, e⟩ | ⟨_, _, _, accepted, _⟩
  · exact absurd empty payload
  · exact e
  · exact absurd rejected accepted

/-- R161: the accepted frame is output and its payload classified before the scanner returns to `SeekStart`. -/
theorem exec_rxbyte_accepted {s : State} {b hdr : Byte} {rest : List Byte} (trail : s.st = .readTrail)
    (payload : s.pay = hdr :: rest) (accepted : ¬(s.verifyEn = true ∧ b ≠ 0 ∧ b ≠ s.cks)) (now : Rat) :
    exec (.rxbyte b now) s =
      .next (((s.output (.frame s.pay)).classify ⟨hdr, rest⟩ now).withResult .none).scannerReset := by
  rw [exec_rxbyte, State.rxByte_accepted trail payload accepted, payload]
  rfl

/-- Settles O24: the three arms by what frame completion can do. -/
theorem frameCompletionHasThreeArms : Obligations.FrameCompletionHasThreeArms := by
  intro s b now trail
  refine ⟨fun empty => ?_, fun payload verify checked mismatch => ?_, fun hdr rest payload accepted =>
    ⟨_, rfl, exec_rxbyte_accepted trail payload accepted now⟩⟩
  · rw [exec_rxbyte, State.rxByte_trail trail, State.judge_empty empty]
    rfl
  · rw [exec_rxbyte, State.rxByte_trail trail, State.judge_rejected payload ⟨verify, checked, mismatch⟩]
    rfl

/-- Settles O8: a payload that decodes is not empty, and its instruction runs as CLASSIFY of it. -/
theorem acceptedFrameRunsItsDecodedPacket : Obligations.AcceptedFrameRunsItsDecodedPacket := by
  intro s b now i trail verified decoded
  obtain ⟨hdr, rest, payload⟩ := exists_cons_of_decode decoded
  have accepted : ¬(s.verifyEn = true ∧ b ≠ 0 ∧ b ≠ s.cks) := fun ⟨verify, checked, mismatch⟩ =>
    (verified verify).elim checked mismatch
  rw [payload] at decoded
  exact ⟨_, exec_of_decode (p := ⟨hdr, rest⟩) decoded _, exec_rxbyte_accepted trail payload accepted now⟩

/-! ### RXBYTE and the TOKEN rows (R150), totality (R164), SETVERIFY (R163) -/

/-- R150: the byte decoder and RXBYTE classify a byte in the same way. -/
theorem exec_decodeToken (s : State) (b : Byte) (now : Rat) :
    exec (decodeToken s.par b now) s = .next ((s.rxByte b now).withResult .none) := by
  by_cases eop : b = s.par.eop
  · have cls := byteClass_eop.2 eop
    rw [decodeToken_eop eop]
    simp [exec, execByteEOP, complete, State.rxByte, cls]
  · by_cases esc : b = s.par.esc
    · have cls := byteClass_esc.2 ⟨eop, esc⟩
      rw [decodeToken_esc eop esc]
      simp [exec, execByteESC, complete, State.rxByte, cls]
    · have cls := byteClass_data.2 ⟨eop, esc⟩
      rw [decodeToken_data eop esc]
      simp [exec, execByteDATA, complete, State.rxByte, cls]

/-- A TOKEN row on a byte of its class. -/
theorem exec_token_of_wellFormed {s : State} {i : Instr} {b : Byte} {now : Rat}
    (row : i = .byteEOP b now ∨ i = .byteESC b now ∨ i = .byteDATA b now) (wf : i.wellFormed s.par = true) :
    exec i s = .next ((s.rxByte b now).withResult .none) := by
  rw [← decodeToken_of_wellFormed row wf, exec_decodeToken]

/-- A TOKEN row on a byte of another class. -/
theorem exec_token_of_not_wellFormed {s : State} {i : Instr} (token : isToken i = true)
    (not_wf : i.wellFormed s.par = false) : exec i s = .refused .tokenClassMismatch := by
  cases i with
  | byteEOP b now =>
    have other : byteClass s.par b ≠ .eop := by rw [Ne, byteClass_eop]; simpa [Instr.wellFormed] using not_wf
    exact if_neg other
  | byteESC b now =>
    have other : byteClass s.par b ≠ .esc := by
      rw [Ne, byteClass_esc, and_comm]; simpa [Instr.wellFormed] using not_wf
    exact if_neg other
  | byteDATA b now =>
    have other : byteClass s.par b ≠ .data := by rw [Ne, byteClass_data]; simpa [Instr.wellFormed] using not_wf
    exact if_neg other
  | _ => cases token

/-- Settles O7: the byte decoder's row is the one RXBYTE runs, and a well-formed TOKEN term is that row. -/
theorem rxbyteRunsTheTokenOfItsByte : Obligations.RxbyteRunsTheTokenOfItsByte :=
  ⟨fun s b now => ⟨_, exec_rxbyte b now s, exec_decodeToken s b now⟩,
    fun s b now => ⟨fun wf => ⟨_, exec_token_of_wellFormed (.inl rfl) wf, exec_rxbyte b now s⟩,
      fun wf => ⟨_, exec_token_of_wellFormed (.inr (.inl rfl)) wf, exec_rxbyte b now s⟩,
      fun wf => ⟨_, exec_token_of_wellFormed (.inr (.inr rfl)) wf, exec_rxbyte b now s⟩⟩,
    fun _ _ => exec_token_of_not_wellFormed⟩

/-- R164: only the TOKEN rows, `ctrl_unassigned` and SEND test an operand; SEND answers a next state either way. -/
theorem exec_next_of_wellFormed {s : State} {i : Instr} (wf : i.wellFormed s.par = true) :
    ∃ t, exec i s = .next t := by
  cases i with
  | byteEOP b now => exact ⟨_, exec_token_of_wellFormed (.inl rfl) wf⟩
  | byteESC b now => exact ⟨_, exec_token_of_wellFormed (.inr (.inl rfl)) wf⟩
  | byteDATA b now => exact ⟨_, exec_token_of_wellFormed (.inr (.inr rfl)) wf⟩
  | ctrlUnassigned id seq =>
    have unassigned : 19 ≤ id.toNat := by simpa [Instr.wellFormed] using wf
    exact ⟨_, if_pos unassigned⟩
  | send m value =>
    cases known : resolve m with
    | none => exact ⟨_, by rw [exec, execSend, known]; rfl⟩
    | some id => exact ⟨_, exec_send_of_resolve known value s⟩
  | _ => exact ⟨_, rfl⟩

theorem Event.toInstr_wellFormed (P : Params) (e : Event) : e.toInstr.wellFormed P = true := by
  cases e <;> rfl

/-- Settles O10: an input event is a well-formed instruction. -/
theorem noStepStops : Obligations.NoStepStops := by
  refine ⟨fun s e rest presented => ?_, fun s b now => ⟨_, exec_rxbyte b now s⟩,
    fun s i => exec_next_of_wellFormed⟩
  rw [State.Safe, step_of_inbox_cons presented]
  exact exec_next_of_wellFormed (Event.toInstr_wellFormed _ e)

/-- Settles O13: the write of `verifyEn` does not depend on the value that it replaces. -/
theorem setverifyWritesOnlyVerifyEn : Obligations.SetverifyWritesOnlyVerifyEn := fun _ _ => ⟨rfl, rfl⟩

/-! ### What is kept by RXBYTE from the reset registers is kept by every step -/

/-- A predicate on the scanner's registers and the parameters that holds of the scanner's reset registers and that
RXBYTE keeps. -/
structure ScannerInvariant (I : State → Prop) : Prop where
  scannerFrom : ∀ u s : State, I s → I (u.scannerFrom s)
  scannerReset : ∀ s : State, I s.scannerReset
  rxByte : ∀ (s : State) (b : Byte) (now : Rat), I s → I (s.rxByte b now)

theorem State.eq_scannerFrom {s t : State} (same : s.ScannerSame t) (par : t.par = s.par) : t = t.scannerFrom s := by
  obtain ⟨st, esc, cks, pay, raw⟩ := same
  rw [State.scannerFrom, ← st, ← esc, ← cks, ← pay, ← raw, ← par]

theorem ScannerInvariant.rxAll {I : State → Prop} (inv : ScannerInvariant I) (buf : List RxByte) {s : State}
    (holds : I s) : I (s.rxAll buf) := by
  induction buf generalizing s with
  | nil => exact holds
  | cons x xs ih => exact ih (inv.rxByte s x.b x.now holds)

theorem ScannerInvariant.withResult {I : State → Prop} (inv : ScannerInvariant I) (r : Result) {s : State}
    (holds : I s) : I (s.withResult r) :=
  inv.scannerFrom (s.withResult r) s holds

theorem ScannerInvariant.exec {I : State → Prop} (inv : ScannerInvariant I) {i : Instr} {s t : State} (holds : I s)
    (runs : exec i s = .next t) : I t := by
  rcases exec_scanner_cases runs with ⟨st, esc, cks, pay, raw, par⟩ | ⟨b, now, rfl⟩ | ⟨buf, r, rfl⟩ | rfl
  · rw [State.eq_scannerFrom ⟨st, esc, cks, pay, raw⟩ par]
    exact inv.scannerFrom t s holds
  · exact inv.withResult _ (inv.rxByte s b now holds)
  · exact inv.withResult _ (inv.rxAll buf (inv.scannerReset s))
  · exact inv.scannerReset (s.resetRegs.withResult .none)

theorem ScannerInvariant.step {I : State → Prop} (inv : ScannerInvariant I) {s t : State} (holds : I s)
    (runs : step s = .next t) : I t := by
  rcases step_cases runs with ⟨_, rfl⟩ | ⟨e, rest, _, runs⟩
  · exact holds
  · exact inv.exec (inv.scannerFrom { s with inbox := rest } s holds) runs

/-! ### `esc` only in `Collecting` (R170) -/

/-- The invariant below the table of R170. -/
def State.EscInv (s : State) : Prop := s.esc = true → s.st = .collecting

theorem State.rxByte_escInv {s : State} (inv : s.EscInv) (b : Byte) (now : Rat) : (s.rxByte b now).EscInv := by
  intro esc
  rcases s.rxByte_cases b now with ⟨st, _, e⟩ | ⟨st, _, e⟩ | ⟨_, e⟩ | ⟨st, _, e⟩ | ⟨st, _, _, _, e⟩ | ⟨_, off, _, e⟩ |
    ⟨st, _, _, _, e⟩ | ⟨_, e⟩ <;> rw [e] at esc ⊢
  · cases st.symm.trans (inv esc)
  · cases st.symm.trans (inv esc)
  · rfl
  · exact st
  · exact st
  · cases off.symm.trans esc
  · exact st
  · cases esc

theorem escInv_scannerInvariant : ScannerInvariant State.EscInv where
  scannerFrom _ _ inv := inv
  scannerReset _ := nofun
  rxByte _ b now inv := State.rxByte_escInv inv b now

/-- Settles O25. -/
theorem escapeFlagOnlyWhileCollecting : Obligations.EscapeFlagOnlyWhileCollecting :=
  fun _ _ inv runs => escInv_scannerInvariant.step inv runs

/-! ### The four forms of the scanner's registers (R167, R168) -/

/-- `s` with its scanner after an opening `EOP`. -/
def State.opened (s : State) : State :=
  { s with st := .readLead, esc := false, cks := 0, pay := [], raw := [s.par.eop] }

/-- `s` with its scanner after an opening `EOP`, a lead byte and the wire bytes `w` of a payload. -/
def State.inFrame (s : State) (lead : Byte) (w : List Byte) : State :=
  { s with st := .collecting, esc := (unescapeRun s.par w).2, cks := cksum w, pay := unescape s.par w
           raw := s.par.eop :: lead :: w }

/-- `s` with its scanner after the closing `EOP` too. -/
def State.atTrail (s : State) (lead : Byte) (w : List Byte) : State :=
  { s with st := .readTrail, esc := false, cks := cksum w, pay := unescape s.par w
           raw := s.par.eop :: lead :: (w ++ [s.par.eop]) }

/-- The scanner's registers are of one of the four forms that a frame in progress gives them. It is stronger than
`State.WireInv` in one point: in `ReadTrail` no escape was pending before the closing `EOP`. -/
inductive State.Framed : State → Prop where
  | seek (s : State) : Framed s.scannerReset
  | lead (s : State) : Framed s.opened
  | payload (s : State) (lead : Byte) (w : List Byte) (closed : NoOpenEop s.par w) : Framed (s.inFrame lead w)
  | trail (s : State) (lead : Byte) (w : List Byte) (closed : NoOpenEop s.par w)
      (ended : (unescapeRun s.par w).2 = false) : Framed (s.atTrail lead w)

theorem noOpenEop_snoc_iff {P : Params} {w : List Byte} {b : Byte} :
    NoOpenEop P (w ++ [b]) ↔ NoOpenEop P w ∧ (b = P.eop → (unescapeRun P w).2 = true) :=
  ⟨fun closed => ⟨fun u v split => closed u (v ++ [b]) (by simp [split]), fun eop => closed w [] (by rw [eop])⟩,
    fun ⟨closed, escaped⟩ => closed.snoc escaped⟩

/-- R151 from the reset registers. -/
theorem State.rxByte_scannerReset_eop (s : State) (now : Rat) : s.scannerReset.rxByte s.par.eop now = s.opened :=
  State.rxByte_seek_eop rfl rfl

/-- R152 from the reset registers. -/
theorem State.rxByte_scannerReset_other {s : State} {b : Byte} (not_eop : b ≠ s.par.eop) (now : Rat) :
    s.scannerReset.rxByte b now = s.scannerReset :=
  State.rxByte_seek_other rfl not_eop

/-- R153. -/
theorem State.rxByte_opened (s : State) (lead : Byte) (now : Rat) : s.opened.rxByte lead now = s.inFrame lead [] :=
  State.rxByte_readLead rfl

/-- R154, R155, R157: a byte that is no unescaped `EOP` is one more wire byte of the payload. -/
theorem State.rxByte_inFrame {s : State} {w : List Byte} {b : Byte}
    (escaped : b = s.par.eop → (unescapeRun s.par w).2 = true) (lead : Byte) (now : Rat) :
    (s.inFrame lead w).rxByte b now = s.inFrame lead (w ++ [b]) := by
  cases pending : (unescapeRun s.par w).2 with
  | true =>
    rw [State.rxByte_escaped rfl pending]
    simp [State.keepRaw, State.collectEscaped, State.inFrame, cksum_snoc, unescape, unescapeRun_snoc, unescapeStep,
      pending]
  | false =>
    have not_eop : b ≠ s.par.eop := fun eop => by simp [escaped eop] at pending
    by_cases esc : b = s.par.esc
    · rw [State.rxByte_esc (s := s.inFrame lead w) rfl pending not_eop esc]
      simp [State.keepRaw, State.collectEsc, State.inFrame, cksum_snoc, unescape, unescapeRun_snoc, unescapeStep,
        pending, esc]
    · rw [State.rxByte_data (s := s.inFrame lead w) rfl pending not_eop esc]
      simp [State.keepRaw, State.collectData, State.inFrame, cksum_snoc, unescape, unescapeRun_snoc, unescapeStep,
        pending, esc]

/-- R156. -/
theorem State.rxByte_inFrame_eop {s : State} {w : List Byte} (ended : (unescapeRun s.par w).2 = false) (lead : Byte)
    (now : Rat) : (s.inFrame lead w).rxByte s.par.eop now = s.atTrail lead w := by
  rw [State.rxByte_close (s := s.inFrame lead w) (b := s.par.eop) rfl ended rfl]
  simp [State.keepRaw, State.closePayload, State.inFrame, State.atTrail, ended]

theorem State.Framed.rxByte {s : State} (framed : s.Framed) (b : Byte) (now : Rat) : (s.rxByte b now).Framed := by
  cases framed with
  | seek s =>
    by_cases eop : b = s.par.eop
    · rw [eop, State.rxByte_scannerReset_eop]
      exact .lead s
    · rw [State.rxByte_scannerReset_other eop]
      exact .seek s
  | lead s =>
    rw [State.rxByte_opened]
    exact .payload s b [] (noOpenEop_nil s.par)
  | payload s lead w closed =>
    by_cases closing : b = s.par.eop ∧ (unescapeRun s.par w).2 = false
    · obtain ⟨rfl, ended⟩ := closing
      rw [State.rxByte_inFrame_eop ended]
      exact .trail s lead w closed ended
    · have escaped : b = s.par.eop → (unescapeRun s.par w).2 = true := by simpa using closing
      rw [State.rxByte_inFrame escaped]
      exact .payload s lead _ (closed.snoc escaped)
  | trail s lead w =>
    rw [State.rxByte_trail rfl]
    exact .seek _

theorem State.Framed.scannerFrom {s : State} (framed : s.Framed) (u : State) : (u.scannerFrom s).Framed := by
  cases framed with
  | seek s => exact .seek (u.scannerFrom s)
  | lead s => exact .lead (u.scannerFrom s)
  | payload s lead w closed => exact .payload (u.scannerFrom s) lead w closed
  | trail s lead w closed ended => exact .trail (u.scannerFrom s) lead w closed ended

theorem framed_scannerInvariant : ScannerInvariant State.Framed where
  scannerFrom u _ framed := framed.scannerFrom u
  scannerReset := .seek
  rxByte _ b now framed := framed.rxByte b now

/-! ### The registers as the wire bytes make them (R167, R168) -/

theorem State.Framed.wireInv {s : State} (framed : s.Framed) : s.WireInv := by
  cases framed with
  | seek s => exact ⟨rfl, rfl, rfl, rfl⟩
  | lead s => exact ⟨rfl, rfl, rfl, rfl⟩
  | payload s lead w closed => exact ⟨lead, w, rfl, rfl, rfl, closed⟩
  | trail s lead w closed ended => exact ⟨lead, w, rfl, rfl, rfl, rfl, closed⟩

/-- Before the closing `EOP` the two invariants are the same. -/
theorem State.WireInv.framed {s : State} (inv : s.WireInv) (before : s.st ≠ .readTrail) : s.Framed := by
  unfold State.WireInv at inv
  cases st : s.st <;> rw [st] at inv
  case readTrail => exact absurd st before
  case seekStart =>
    obtain ⟨raw, esc, cks, pay⟩ := inv
    have form : s = s.scannerReset := 
      State.eq_scannerFrom (s := s.scannerReset) ⟨st, esc, cks, pay, raw⟩ rfl
    exact form ▸ .seek s
  case readLead =>
    obtain ⟨raw, esc, cks, pay⟩ := inv
    have form : s = s.opened := State.eq_scannerFrom (s := s.opened) ⟨st, esc, cks, pay, raw⟩ rfl
    exact form ▸ .lead s
  case collecting =>
    obtain ⟨lead, w, raw, cks, run, closed⟩ := inv
    have form : s = s.inFrame lead w := 
      State.eq_scannerFrom (s := s.inFrame lead w)
        ⟨st, (congrArg Prod.snd run).symm, cks, (congrArg Prod.fst run).symm, raw⟩ rfl
    exact form ▸ .payload s lead w closed

theorem wireInv_scannerInvariant : ScannerInvariant State.WireInv where
  scannerFrom _ _ inv := inv
  scannerReset s := (State.Framed.seek s).wireInv
  rxByte s b now inv := by
    by_cases trail : s.st = .readTrail
    · rw [State.rxByte_trail trail]
      exact (State.Framed.seek _).wireInv
    · exact ((inv.framed trail).rxByte b now).wireInv

/-- Settles O26: RXBYTE keeps the invariant, and it holds of the registers from which SCAN and RESET start. -/
theorem scannerRegistersDescribeTheWireBytes : Obligations.ScannerRegistersDescribeTheWireBytes :=
  ⟨fun _ _ _ => wireInv_scannerInvariant.exec, fun _ _ => wireInv_scannerInvariant.step⟩

/-! ### The restart law (R169) -/

/-- The wire bytes of a payload with no unescaped `EOP` are collected, whatever the clock readings. -/
theorem State.rxAll_inFrame {s : State} {buf : List RxByte} (closed : NoOpenEop s.par (buf.map (·.b))) (lead : Byte) :
    (s.inFrame lead []).rxAll buf = s.inFrame lead (buf.map (·.b)) := by
  induction buf using List.reverseRecOn with
  | nil => rfl
  | append_singleton buf x ih =>
    rw [List.map_append, List.map_singleton] at closed ⊢
    obtain ⟨closed, escaped⟩ := noOpenEop_snoc_iff.1 closed
    rw [State.rxAll_append, ih closed]
    exact State.rxByte_inFrame escaped lead x.now

/-- Running the scanner from its reset registers over `raw` gives the whole state back: no frame is completed. -/
theorem State.Framed.rxAll_raw {s : State} (framed : s.Framed) {buf : List RxByte} (replay : buf.map (·.b) = s.raw) :
    s.scannerReset.rxAll buf = s := by
  cases framed with
  | seek s =>
    obtain rfl := List.map_eq_nil_iff.1 replay
    rfl
  | lead s =>
    obtain ⟨x, rfl, eop⟩ := List.map_eq_singleton_iff.1 replay
    rw [State.rxAll_cons, eop]
    exact s.rxByte_scannerReset_eop x.now
  | payload s lead w closed =>
    obtain ⟨x, buf, rfl, eop, replay⟩ := List.map_eq_cons_iff.1 replay
    obtain ⟨y, buf, rfl, rfl, rfl⟩ := List.map_eq_cons_iff.1 replay
    have opening : (s.scannerReset.rxByte x.b x.now).rxByte y.b y.now = s.inFrame y.b [] := by
      rw [eop, State.rxByte_scannerReset_eop, State.rxByte_opened]
    exact (congrArg (State.rxAll buf) opening).trans (State.rxAll_inFrame closed y.b)
  | trail s lead w closed ended =>
    obtain ⟨x, buf, rfl, eop, replay⟩ := List.map_eq_cons_iff.1 replay
    obtain ⟨y, buf, rfl, rfl, after⟩ := List.map_eq_cons_iff.1 replay
    obtain ⟨buf, last, rfl, rfl, final⟩ := List.map_eq_append_iff.1 after
    obtain ⟨z, rfl, closing⟩ := List.map_eq_singleton_iff.1 final
    have opening : (s.scannerReset.rxByte x.b x.now).rxByte y.b y.now = s.inFrame y.b [] := by
      rw [eop, State.rxByte_scannerReset_eop, State.rxByte_opened]
    refine (congrArg (State.rxAll (buf ++ [z])) opening).trans ?_
    rw [State.rxAll_append, State.rxAll_inFrame closed, State.rxAll_cons, closing]
    exact State.rxByte_inFrame_eop ended y.b z.now

/-- The restart law holds of exactly the four forms, which do not involve the rest of the state. -/
theorem State.replaysRaw_iff_framed {s : State} : s.ReplaysRaw ↔ s.Framed := by
  constructor
  · intro replays
    obtain ⟨⟨st, esc, cks, pay, raw⟩, _⟩ := replays (s.raw.map fun b => ⟨b, 0⟩) (by simp [Function.comp_def])
    have reached := framed_scannerInvariant.rxAll (s.raw.map fun b => ⟨b, 0⟩) (.seek s)
    rw [State.eq_scannerFrom ⟨st.symm, esc.symm, cks.symm, pay.symm, raw.symm⟩ (State.rxAll_par _ s.scannerReset).symm]
    exact reached.scannerFrom s
  · intro framed buf replay
    rw [framed.rxAll_raw replay]
    exact ⟨⟨rfl, rfl, rfl, rfl, rfl⟩, rfl⟩

/-- Settles O27: the restart law says that the registers have one of four forms, and RXBYTE keeps those. -/
theorem scannerStateIsAFunctionOfRaw : Obligations.ScannerStateIsAFunctionOfRaw := by
  constructor
  · intro i s t replays runs
    exact State.replaysRaw_iff_framed.2 (framed_scannerInvariant.exec (State.replaysRaw_iff_framed.1 replays) runs)
  · intro s t replays runs
    exact State.replaysRaw_iff_framed.2 (framed_scannerInvariant.step (State.replaysRaw_iff_framed.1 replays) runs)

/-! ### SCAN (R166, R169) -/

theorem State.rxByte_withResult (b : Byte) (now : Rat) (r : Result) (s : State) :
    (s.withResult r).rxByte b now = (s.rxByte b now).withResult r :=
  (s.rxByte_queued b now s.inbox r).trans (congrArg (fun q => (s.rxByte b now).queued q r) (s.rxByte_inbox b now).symm)

theorem State.rxAll_withResult (buf : List RxByte) (r : Result) (s : State) :
    (s.withResult r).rxAll buf = (s.rxAll buf).withResult r := by
  induction buf generalizing s with
  | nil => rfl
  | cons x xs ih => rw [State.rxAll_cons, State.rxByte_withResult, ih, State.rxAll_cons]

theorem framesOf_append (a b : List Output) : framesOf (a ++ b) = framesOf a ++ framesOf b :=
  List.filterMap_append

/-- What is output from `s` to `w` is what is output from `s` to `u` and then from `u` to `w`. -/
theorem newOutputs_append {s u w : State} (first : s.outs <+: u.outs) (second : u.outs <+: w.outs) :
    newOutputs s w = newOutputs s u ++ newOutputs u w := by
  obtain ⟨a, first⟩ := first
  obtain ⟨b, second⟩ := second
  simp [newOutputs, ← second, ← first]

theorem exec_scan (buf : List RxByte) (s : State) :
    exec (.scan buf) s = .next ((s.scannerReset.rxAll buf).withResult
      (.scanned (framesOf (newOutputs s (s.scannerReset.rxAll buf))) (s.scannerReset.rxAll buf).raw)) := rfl

theorem framed_of_scan {buf : List RxByte} {s t : State} (runs : exec (.scan buf) s = .next t) : t.Framed := by
  cases runs
  exact framed_scannerInvariant.withResult _ (framed_scannerInvariant.rxAll buf (.seek s))

/-- SCAN of two pieces in terms of the scanner after the first. -/
theorem exec_scan_append {s u : State} {a : List RxByte} (scanned : s.scannerReset.rxAll a = u) (b : List RxByte) :
    exec (.scan (a ++ b)) s = .next ((u.rxAll b).withResult
      (.scanned (framesOf (newOutputs s u) ++ framesOf (newOutputs u (u.rxAll b))) (u.rxAll b).raw)) := by
  have first : s.outs <+: u.outs := scanned ▸ s.scannerReset.rxAll_appends a
  rw [← framesOf_append, ← newOutputs_append first (u.rxAll_appends b), ← scanned, ← State.rxAll_append,
    exec_scan]

/-- Settles O29: one more byte is RXBYTE from the state SCAN left, and RXBYTE does not read what SCAN returned. -/
theorem scanRunsTheBufferThroughRxbyte : Obligations.ScanRunsTheBufferThroughRxbyte := by
  refine ⟨fun s => by simp [exec, execScan, complete, framesOf, State.withResult, State.scannerReset, cksumInit],
    fun s buf x => ⟨_, _, _, rfl, rfl, exec_rxbyte x.b x.now _, ?_⟩⟩
  rw [exec_scan_append rfl [x], State.rxByte_withResult]
  rfl

/-- Settles O30: the remainder is `raw`, so scanning it again gives the state after the first piece. -/
theorem scanIsRestartable : Obligations.ScanIsRestartable := by
  intro s u v a b again f1 f2 r r2 first returned replay second returned'
  have framed := framed_of_scan first
  rw [exec_scan] at first
  obtain rfl := Host.Outcome.next.inj first
  obtain ⟨rfl, rfl⟩ := Result.scanned.inj returned
  rw [exec_scan_append (framed.rxAll_raw replay), State.rxAll_withResult] at second
  obtain rfl := Host.Outcome.next.inj second
  obtain ⟨rfl, rfl⟩ := Result.scanned.inj returned'
  rw [exec_scan_append rfl b]
  simp [newOutputs, framesOf, State.withResult]

/-! ### A well-formed frame recovered (R168) -/

/-- The packet decoder neither reads nor writes the presented events. -/
theorem State.classify_queued (p : Payload) (now : Rat) (q : List Event) (r : Result) (s : State) :
    (s.queued q r).classify p now = (s.classify p now).queued q r :=
  (State.classify_graft (s.queued q r) s p now).trans (congrArg (State.queued q r) (s.classify_eq_graft p now).symm)

/-- Settles O31: the run over a frame, and CLASSIFY with the later events presented. -/
theorem scannerRecoversEveryEscapedPayload : Obligations.ScannerRecoversEveryEscapedPayload := by
  intro s p lead clock rest seek ⟨distinct, _⟩ w wire
  refine ⟨_, rfl, (run_wireFrame seek distinct p lead clock rest s.result).trans ?_⟩
  have same : ({ s with inbox := rest, outs := s.outs ++ [.frame p.bytes] } : State) =
    (s.output (.frame p.bytes)).queued rest s.result := rfl
  rw [same, State.classify_queued]
  rfl

end Sys2Proof.Machine
end

section
/-! PROOFS. 43_packet_decode.md: the samples of a stream packet (R205 to R211), the words of a control packet and its
ids (R181 to R204), the selection of the packet class (R180), and `lastSeq` (R185). -/

namespace Sys2Proof.Machine

/-! ### The samples loop, turn by turn (R206 to R208) -/

@[simp] theorem sampleWidth_first (unread : Nat) : sampleWidth true unread = 32 := rfl

theorem sampleWidth_wide {unread : Nat} (few : unread ≤ 40) : sampleWidth false unread = 32 :=
  if_pos few

theorem sampleWidth_narrow {unread : Nat} (many : 40 < unread) : sampleWidth false unread = 12 :=
  if_neg (not_le.2 many)

/-- R208: a sample that does not fit ends the loop, whatever the bound on its turns. -/
theorem samplesLoop_of_short {first : Bool} {bits : List Bool} (short : bits.length < sampleWidth first bits.length)
    (fuel : Nat) : samplesLoop fuel first bits = [] := by
  cases fuel with
  | zero => rfl
  | succ fuel => exact if_pos short

/-- R207: one turn of the loop at bit position `pos` of the value stream. -/
theorem samplesLoop_drop_of_fits {first : Bool} {V : List Bool} {pos w : Nat}
    (width : sampleWidth first (V.length - pos) = w) (fits : w ≤ V.length - pos) (fuel : Nat) :
    samplesLoop (fuel + 1) first (V.drop pos) = sampleAt V pos w :: samplesLoop fuel false (V.drop (pos + w)) := by
  have enough : ¬(V.drop pos).length < sampleWidth first (V.drop pos).length := by
    rw [List.length_drop, width]
    exact not_lt.2 fits
  rw [samplesLoop, if_neg enough, List.length_drop, width, List.drop_drop, sampleAt]

/-- The samples after the first, by induction on the number `k` of narrow ones: more than 40 bits are unread exactly
before those, and the `r` bits after the wide one are too few for another. -/
theorem samplesLoop_after_first {V : List Bool} {k r : Nat} (padding : r ≤ 8) :
    ∀ {pos fuel : Nat}, V.length = pos + 12 * k + 32 + r → k < fuel →
      samplesLoop fuel false (V.drop pos) =
        (List.range k).map (fun j => sampleAt V (pos + 12 * j) 12) ++ [sampleAt V (pos + 12 * k) 32] := by
  induction k with
  | zero =>
    intro pos fuel len turns
    obtain ⟨fuel, rfl⟩ := Nat.exists_eq_add_of_lt turns
    have done : samplesLoop fuel false (V.drop (pos + 32)) = [] := by
      refine samplesLoop_of_short ?_ fuel
      rw [List.length_drop, sampleWidth_wide (by omega)]
      omega
    rw [Nat.zero_add, samplesLoop_drop_of_fits (sampleWidth_wide (by omega)) (by omega), done]
    rfl
  | succ k ih =>
    intro pos fuel len turns
    obtain ⟨fuel, rfl⟩ := Nat.exists_eq_add_of_le' (Nat.one_le_of_lt turns)
    have later := ih (pos := pos + 12) (fuel := fuel) (by omega) (by omega)
    have shift (j : Nat) : pos + 12 + 12 * j = pos + 12 * (j + 1) := by omega
    rw [samplesLoop_drop_of_fits (sampleWidth_narrow (by omega)) (by omega), later]
    simp [List.range_succ_eq_map, shift]

/-! ### The closed form by payload length (R210) -/

theorem samplesByShape_none {n : Nat} (short : n < 5) (V : List Bool) : samplesByShape n V = [] :=
  if_pos short

theorem samplesByShape_one {n : Nat} (five : 5 ≤ n) (short : n < 9) (V : List Bool) :
    samplesByShape n V = [sampleAt V 0 32] := by
  rw [samplesByShape, if_neg (not_lt.2 five), if_pos short]

theorem samplesByShape_many {n k : Nat} (nine : 9 ≤ n) (narrow : (8 * n - 68) / 12 = k) (V : List Bool) :
    samplesByShape n V = sampleAt V 0 32 ::
      ((List.range k).map (fun j => sampleAt V (32 + 12 * j) 12) ++ [sampleAt V (32 + 12 * k) 32]) := by
  subst narrow
  rw [samplesByShape, if_neg (by omega), if_neg (by omega)]
  rfl

/-- The first turn of the loop on a value stream that holds a whole first sample. -/
theorem samplesOf_eq_cons {V : List Bool} (fits : 32 ≤ V.length) :
    samplesOf V = sampleAt V 0 32 :: samplesLoop (V.length - 1) false (V.drop 32) := by
  have first := samplesLoop_drop_of_fits (V := V) (pos := 0) (sampleWidth_first _) fits (V.length - 1)
  rwa [List.drop_zero, Nat.zero_add, Nat.sub_add_cancel (by omega)] at first

/-- R210: the loop on the value stream of a payload of `n` bytes, by the three ranges of `n`. -/
theorem samplesOf_eq_samplesByShape {n : Nat} {V : List Bool} (len : V.length = 8 * n - 4) :
    samplesOf V = samplesByShape n V := by
  by_cases few : n < 5
  · rw [samplesByShape_none few]
    exact samplesLoop_of_short (by rw [sampleWidth_first]; omega) _
  · rw [samplesOf_eq_cons (by omega)]
    by_cases one : n < 9
    · rw [samplesByShape_one (not_lt.1 few) one, samplesLoop_of_short]
      rw [List.length_drop, sampleWidth_wide (by omega)]
      omega
    · have nine : 9 ≤ n := not_lt.1 one
      have padding : 8 * n - 68 - 12 * ((8 * n - 68) / 12) ≤ 8 := by omega
      rw [samplesByShape_many nine rfl, samplesLoop_after_first (k := (8 * n - 68) / 12) padding (by omega) (by omega)]

theorem valueStream_length (nib : BitVec 4) (rest : List Byte) :
    (valueStream nib rest).length = 8 * (rest.length + 1) - 4 := by
  rw [(streamBitsAreMsbFirst nib rest).1]
  omega

theorem samplesOf_valueStream (nib : BitVec 4) (rest : List Byte) :
    samplesOf (valueStream nib rest) = samplesByShape (rest.length + 1) (valueStream nib rest) :=
  samplesOf_eq_samplesByShape (valueStream_length nib rest)

theorem headerSid_eq_ofNat (h : Byte) : headerSid h = BitVec.ofNat 3 (h.toNat / 16) := by
  rw [headerSid, BitVec.extractLsb', Nat.shiftRight_eq_div_pow]

theorem headerNibble_eq_ofNat (h : Byte) : headerNibble h = BitVec.ofNat 4 h.toNat := rfl

/-- R207: what `stream` does. -/
theorem exec_stream (sid : StreamId) (nib : BitVec 4) (rest : List Byte) (s : State) :
    exec (.stream sid nib rest) s = .next
      (s.after [.strm sid (samplesByShape (rest.length + 1) (valueStream nib rest))] .none) := by
  rw [← samplesOf_valueStream]
  rfl

/-- R207: STRM is `stream` of the header's fields. -/
theorem exec_strm (p : Payload) (s : State) :
    exec (.strm p) s = exec (.stream (headerSid p.hdr) (headerNibble p.hdr) p.rest) s := rfl

/-- Settles O41: the loop in its closed form; the bits left over are arithmetic on the payload length. -/
theorem streamSamplesHaveTheTableShapes : Obligations.StreamSamplesHaveTheTableShapes := by
  intro s p sid nib rest
  refine ⟨exec_stream sid nib rest s, ?_, ?_⟩
  · rw [exec_strm, exec_stream, headerSid_eq_ofNat, headerNibble_eq_ofNat]
  · simp only [List.mem_cons, List.not_mem_nil, or_false]
    exact ⟨by omega, by omega, by omega, by omega⟩

/-! ### The transmitter's layout decoded (R210) -/

theorem uint_append_singleton (bits : List Bool) (b : Bool) : uint (bits ++ [b]) = 2 * uint bits + b.toNat := by
  rw [uint, List.foldl_append]
  rfl

/-- The first `k` of `n` bits read as a number are the value's upper `k` bits. -/
theorem uint_map_getMsbD_range {n : Nat} (v : BitVec n) {k : Nat} (le : k ≤ n) :
    uint ((List.range k).map v.getMsbD) = v.toNat / 2 ^ (n - k) := by
  induction k with
  | zero => exact (Nat.div_eq_of_lt v.isLt).symm
  | succ k ih =>
    have bit : (v.getMsbD k).toNat = v.toNat / 2 ^ (n - (k + 1)) % 2 := by
      rw [BitVec.getMsbD, decide_eq_true (Nat.lt_of_succ_le le), Bool.true_and, BitVec.getLsbD, Nat.toNat_testBit,
        Nat.sub_sub, Nat.add_comm 1 k]
    have upper : v.toNat / 2 ^ (n - k) = v.toNat / 2 ^ (n - (k + 1)) / 2 := by
      rw [Nat.div_div_eq_div_mul, ← Nat.pow_succ, Nat.succ_eq_add_one, Nat.sub_add_eq, Nat.sub_add_cancel (by omega)]
    rw [List.range_succ, List.map_append, List.map_singleton, uint_append_singleton, ih (Nat.le_of_succ_le le), bit,
      upper, Nat.div_add_mod]

/-- R63: reading back the bits of a value. -/
theorem uint_bitsMsb {n : Nat} (v : BitVec n) : uint (bitsMsb v) = v.toNat := by
  rw [bitsMsb, uint_map_getMsbD_range v le_rfl, Nat.sub_self, Nat.pow_zero, Nat.div_one]

/-- R102: a value laid out at bit position `pos` is the sample there, zero-extended. -/
theorem sampleAt_of_layout {n pos : Nat} {V before after : List Bool} (v : BitVec n)
    (layout : V = before ++ bitsMsb v ++ after) (position : before.length = pos) :
    sampleAt V pos n = v.setWidth 32 := by
  subst layout position
  have bits : ((before ++ bitsMsb v ++ after).drop before.length).take n = bitsMsb v := by
    rw [List.append_assoc, List.drop_left, List.take_left' (bitsMsb_length v)]
  rw [sampleAt, bits, uint_bitsMsb, BitVec.ofNat_toNat]

theorem flatMap_bitsMsb_length {n : Nat} (vs : List (BitVec n)) : (vs.flatMap bitsMsb).length = n * vs.length := by
  simp [List.length_flatMap, Nat.mul_comm]

/-- Values of one width laid out one after the other are the samples at the multiples of that width. -/
theorem sampleAt_of_flatMap_layout {n pos : Nat} {V before after : List Bool} (vs : List (BitVec n))
    (layout : V = before ++ vs.flatMap bitsMsb ++ after) (position : before.length = pos) :
    (List.range vs.length).map (fun j => sampleAt V (pos + n * j) n) = vs.map (·.setWidth 32) := by
  refine List.ext_getElem (by simp) fun j _ inside => ?_
  have lt : j < vs.length := by simpa using inside
  have split : vs.flatMap bitsMsb =
      (vs.take j).flatMap bitsMsb ++ (bitsMsb vs[j] ++ (vs.drop (j + 1)).flatMap bitsMsb) := by
    rw [← List.flatMap_cons, ← List.flatMap_append, List.cons_getElem_drop_succ, List.take_append_drop]
  have at_j : V = (before ++ (vs.take j).flatMap bitsMsb) ++ bitsMsb vs[j] ++
      ((vs.drop (j + 1)).flatMap bitsMsb ++ after) := by
    simp only [layout, split, List.append_assoc]
  rw [List.getElem_map, List.getElem_map, List.getElem_range]
  refine sampleAt_of_layout vs[j] at_j ?_
  rw [List.length_append, position, flatMap_bitsMsb_length, List.length_take_of_le lt.le]

/-- Settles O42: fewer than 8 bits of padding leave the length of the payload to fix the number of narrow samples, so
the closed form reads each value at the position where it was laid out. -/
theorem streamDecodeInvertsTheTransmitter : Obligations.StreamDecodeInvertsTheTransmitter := by
  intro s sid nib rest first last mids pad layout padding
  have len : 8 * (rest.length + 1) - 4 = 32 + 12 * mids.length + 32 + pad.length := by
    rw [← valueStream_length nib rest, layout]
    simp only [List.length_append, bitsMsb_length, flatMap_bitsMsb_length]
  have narrow : (8 * (rest.length + 1) - 68) / 12 = mids.length := by omega
  have first_sample : sampleAt (valueStream nib rest) 0 32 = first := by
    rw [sampleAt_of_layout (before := []) (after := mids.flatMap bitsMsb ++ bitsMsb last ++ pad) first
      (by simp [layout]) List.length_nil, BitVec.setWidth_eq]
  have mid_samples := sampleAt_of_flatMap_layout (V := valueStream nib rest) (pos := 32) mids
    (by rw [layout, List.append_assoc]) (bitsMsb_length first)
  have last_sample : sampleAt (valueStream nib rest) (32 + 12 * mids.length) 32 = last := by
    rw [sampleAt_of_layout last layout (by rw [List.length_append, bitsMsb_length, flatMap_bitsMsb_length]),
      BitVec.setWidth_eq]
  rw [exec_stream, samplesByShape_many (by omega) narrow, first_sample, mid_samples, last_sample]
  rfl

/-! ### The control packets delivered (R183, R186 to R204) -/

/-- R183, R185: a control message other than `sync` is delivered and nothing else. -/
theorem exec_controlInstr_of_ne {id : MsgId} (not_sync : id ≠ 13) (seq : Byte) (words : List Word) (now : Rat)
    (s : State) : exec (controlInstr id seq words now) s =
      .next { s with lastSeq := seq, outs := s.outs ++ [.ctrl id seq words], result := .none } := by
  rw [exec_controlInstr, State.control_of_ne not_sync]
  rfl

/-- Settles O34: the twelve ids are not that of `sync`. -/
theorem controlMessagesAreDelivered : Obligations.ControlMessagesAreDelivered := by
  intro s seq words
  have deliver (id : MsgId) (not_sync : id ≠ 13) := exec_controlInstr_of_ne not_sync seq words 0 s
  exact ⟨deliver 0 (by decide), deliver 1 (by decide), deliver 2 (by decide), deliver 3 (by decide),
    deliver 4 (by decide), deliver 5 (by decide), deliver 6 (by decide), deliver 7 (by decide),
    deliver 8 (by decide), deliver 9 (by decide), deliver 10 (by decide), deliver 11 (by decide)⟩

/-- Settles O35: the six ids are not that of `sync`. -/
theorem laterControlMessagesAreDelivered : Obligations.LaterControlMessagesAreDelivered := by
  intro s seq words
  have deliver (id : MsgId) (not_sync : id ≠ 13) := exec_controlInstr_of_ne not_sync seq words 0 s
  exact ⟨deliver 12 (by decide), deliver 14 (by decide), deliver 15 (by decide), deliver 16 (by decide),
    deliver 17 (by decide), deliver 18 (by decide)⟩

/-- R199: `sync` is delivered before its words are looked at. -/
theorem exec_sync (seq : Byte) (words : List Word) (now : Rat) (s : State) :
    exec (.sync seq words now) s = complete .none ((s.deliver 13 seq words).syncPacket words now) := rfl

/-- Settles O36: the delivered state is the one SYNC runs from, and without a word the event follows the packet. -/
theorem syncMessageDrivesTheClock : Obligations.SyncMessageDrivesTheClock := by
  refine fun s seq now => ⟨?_, fun t more => ⟨_, exec_sync seq (t :: more) now s, rfl⟩⟩
  have both : s.outs ++ [.ctrl 13 seq [], .ev .syncNoWord] = (s.outs ++ [.ctrl 13 seq []]) ++ [.ev .syncNoWord] := by
    simp
  rw [exec_sync, both]
  rfl

/-! ### CTRL, `ctrl_unassigned` and CLASSIFY (R180 to R184) -/

/-- R182. -/
theorem exec_ctrl_short (h : Byte) (now : Rat) (s : State) :
    exec (.ctrl ⟨h, []⟩ now) s = .next (s.after [.ev (.shortControl h)] .none) := rfl

/-- R183. -/
theorem exec_ctrl_assigned {h : Byte} (id : h.toNat < 19) (seq : Byte) (body : List Byte) (now : Rat) (s : State) :
    exec (.ctrl ⟨h, seq :: body⟩ now) s = complete .none (s.control ⟨h.toNat, id⟩ seq (wordsOf body) now) := by
  simp [exec, execCtrl, State.ctrl, id]

/-- R184. -/
theorem exec_ctrl_unassigned {h : Byte} (unassigned : 19 ≤ h.toNat) (seq : Byte) (body : List Byte) (now : Rat)
    (s : State) : exec (.ctrl ⟨h, seq :: body⟩ now) s = .next (s.after [.ev (.badControlId h seq)] .none) := by
  have ctrl : s.ctrl ⟨h, seq :: body⟩ now = s.badControl h seq := dif_neg (not_lt.2 unassigned)
  rw [exec, execCtrl, ctrl]
  rfl

/-- Settles O37: the row by its own test of the id, CTRL by its test of the header. -/
theorem unassignedIdIsReported : Obligations.UnassignedIdIsReported := by
  refine ⟨fun s id seq unassigned => ?_, fun s h seq body now unassigned _ =>
    exec_ctrl_unassigned unassigned seq body now s⟩
  rw [exec, execCtrlUnassigned, if_pos unassigned, BitVec.ofNat_toNat]
  rfl

theorem be32_eq_ofNat (b0 b1 b2 b3 : Byte) : be32 b0 b1 b2 b3 =
    BitVec.ofNat 32 (b0.toNat * 2 ^ 24 + b1.toNat * 2 ^ 16 + b2.toNat * 2 ^ 8 + b3.toNat) := by
  rw [← be32_toNat, BitVec.ofNat_toNat, BitVec.setWidth_eq]

/-- R101: the words read group by group are those of the index form; fewer than four bytes give none. -/
theorem wordsOf_eq_wordsByIndex (body : List Byte) : wordsOf body = wordsByIndex body := by
  induction body using wordsOf.induct with
  | case1 b0 b1 b2 b3 rest ih =>
    have groups : (b0 :: b1 :: b2 :: b3 :: rest).length / 4 = rest.length / 4 + 1 := by
      simp only [List.length_cons]
      omega
    rw [wordsOf_cons4, ih, be32_eq_ofNat, wordsByIndex, wordsByIndex, groups, List.range_succ_eq_map, List.map_cons,
      List.map_map]
    rfl
  | case2 body short =>
    match body, short with
    | [], _ | [_], _ | [_, _], _ | [_, _, _], _ => simp [wordsOf, wordsByIndex]
    | b0 :: b1 :: b2 :: b3 :: rest, short => exact (short b0 b1 b2 b3 rest rfl).elim

/-- Settles O38: the three answers of CTRL, with the words in the index form. -/
theorem ctrlReadsBigEndianWords : Obligations.CtrlReadsBigEndianWords := by
  refine ⟨fun s h now => exec_ctrl_short h now s, fun s h seq body now id => ?_,
    fun s h seq body now unassigned => exec_ctrl_unassigned unassigned seq body now s⟩
  rw [← wordsOf_eq_wordsByIndex]
  refine ⟨_, exec_ctrl_assigned id seq body now s, exec_controlInstr _ seq _ now s, State.control_lastSeq ..,
    State.deliver_outs_prefix_control .., fun not_sync => ?_⟩
  have other : (⟨h.toNat, id⟩ : MsgId) ≠ 13 := fun sync => by
    have hdr : h.toNat = 13 := congrArg Fin.val sync
    exact not_sync (BitVec.eq_of_toNat_eq hdr)
  rw [State.control_of_ne other]
  rfl

/-- Settles O39: bit 7 of the header is set from 128 up. -/
theorem classifySelectsOnBit7 : Obligations.ClassifySelectsOnBit7 := by
  intro s p now
  refine ⟨(s.classify p now).withResult .none, rfl, fun stream => ?_, fun control => ?_⟩
  · have classified : s.classify p now = s.strm p := if_pos ((msb_iff p.hdr).2 stream)
    rw [classified]
    rfl
  · have clear : p.hdr.msb = false := (msb_eq_false_iff p.hdr).2 control
    have classified : s.classify p now = s.ctrl p now := by simp [State.classify, clear]
    rw [classified]
    rfl

/-! ### `lastSeq` (R185) -/

/-- The sequence byte of a control packet. -/
def Output.ctrlSeq? : Output → Option Byte
  | .ctrl _ seq _ => some seq
  | .frame _ | .strm .. | .rt .. | .tx _ | .ev _ => none

/-- The sequence bytes of the control packets among outputs (`ctrl_out`, 10_state.md R40). -/
def ctrlSeqsOf (outs : List Output) : List Byte := outs.filterMap Output.ctrlSeq?

@[simp] theorem ctrlSeqsOf_append (a b : List Output) : ctrlSeqsOf (a ++ b) = ctrlSeqsOf a ++ ctrlSeqsOf b :=
  List.filterMap_append

@[simp] theorem ctrlSeqsOf_ctrl (id : MsgId) (seq : Byte) (words : List Word) :
    ctrlSeqsOf [.ctrl id seq words] = [seq] := rfl

/-- An item of any other output stream holds no control packet. -/
@[simp] theorem ctrlSeqsOf_singleton_of_none {o : Output} (other : o.ctrlSeq? = none) : ctrlSeqsOf [o] = [] := by
  simp [ctrlSeqsOf, other]

theorem mem_ctrlSeqsOf {seq : Byte} {outs : List Output} :
    seq ∈ ctrlSeqsOf outs ↔ ∃ id words, .ctrl id seq words ∈ outs := by
  rw [ctrlSeqsOf, List.mem_filterMap]
  constructor
  · rintro ⟨o, mem, is_seq⟩
    cases o with
    | ctrl id _ words => cases is_seq; exact ⟨id, words, mem⟩
    | _ => cases is_seq
  · rintro ⟨id, words, mem⟩
    exact ⟨_, mem, rfl⟩

/-- `t` has output no control packet since `s`, and `lastSeq` is kept. -/
def State.NoCtrl (s t : State) : Prop := ctrlSeqsOf t.outs = ctrlSeqsOf s.outs ∧ t.lastSeq = s.lastSeq

/-- `t` has output one control packet since `s`, and `lastSeq` is its sequence byte. -/
def State.OneCtrl (s t : State) : Prop := ctrlSeqsOf t.outs = ctrlSeqsOf s.outs ++ [t.lastSeq]

/-- One operation's outputs and `lastSeq` as R185 says: at most one control packet. -/
def State.SeqFollows (s t : State) : Prop := s.NoCtrl t ∨ s.OneCtrl t

theorem State.noCtrl_refl (s : State) : s.NoCtrl s := ⟨rfl, rfl⟩

theorem State.NoCtrl.trans {s u t : State} (first : s.NoCtrl u) (second : u.NoCtrl t) : s.NoCtrl t :=
  ⟨second.1.trans first.1, second.2.trans first.2⟩

theorem State.NoCtrl.oneCtrl {s u t : State} (first : s.NoCtrl u) (second : u.OneCtrl t) : s.OneCtrl t := by
  rw [State.OneCtrl, ← first.1]
  exact second

theorem State.OneCtrl.noCtrl {s u t : State} (first : s.OneCtrl u) (second : u.NoCtrl t) : s.OneCtrl t := by
  rw [State.OneCtrl, second.1, second.2]
  exact first

theorem State.NoCtrl.seqFollows {s u t : State} (first : s.NoCtrl u) (second : u.SeqFollows t) : s.SeqFollows t :=
  second.imp first.trans first.oneCtrl

theorem State.noCtrl_output {o : Output} (other : o.ctrlSeq? = none) (s : State) : s.NoCtrl (s.output o) :=
  ⟨by simp [other], rfl⟩

theorem State.noCtrl_emit (e : Ev) (s : State) : s.NoCtrl (s.emit e) := State.noCtrl_output rfl s

theorem State.noCtrl_emitIf (c : Bool) (e : Ev) (s : State) : s.NoCtrl (s.emitIf c e) := by
  cases c with
  | false => exact s.noCtrl_refl
  | true => exact s.noCtrl_emit e

theorem State.noCtrl_correctDrift (now : Rat) (s : State) : s.NoCtrl (s.correctDrift now) := by
  rcases s.correctDrift_cases now with ⟨_, e⟩ | ⟨_, e⟩ <;> rw [e]
  · exact s.noCtrl_refl
  · exact State.noCtrl_emit _ (s.adjust _)

theorem State.noCtrl_clockSync (t : Word) (now : Rat) (s : State) : s.NoCtrl (s.clockSync t now) := by
  rcases s.clockSync_cases t now with ⟨_, e⟩ | ⟨_, e⟩ <;> rw [e]
  · exact ⟨rfl, rfl⟩
  · exact (State.noCtrl_emitIf _ _ (s.accumulate t _)).trans (State.noCtrl_correctDrift now _)

theorem State.noCtrl_syncPacket (words : List Word) (now : Rat) (s : State) : s.NoCtrl (s.syncPacket words now) := by
  rcases s.syncPacket_cases words now with ⟨_, e⟩ | ⟨t, _, _, e⟩ <;> rw [e]
  · exact s.noCtrl_emit .syncNoWord
  · exact s.noCtrl_clockSync t now

theorem State.oneCtrl_deliver (id : MsgId) (seq : Byte) (words : List Word) (s : State) :
    s.OneCtrl (s.deliver id seq words) := by
  simp [State.OneCtrl]

theorem State.oneCtrl_control (id : MsgId) (seq : Byte) (words : List Word) (now : Rat) (s : State) :
    s.OneCtrl (s.control id seq words now) := by
  have delivered := s.oneCtrl_deliver id seq words
  by_cases sync : id = 13
  · subst sync
    exact delivered.noCtrl (State.noCtrl_syncPacket words now _)
  · rwa [State.control_of_ne sync]

/-- R185: a stream packet, a short payload and a bad id leave `lastSeq`. -/
theorem State.classify_seqFollows (p : Payload) (now : Rat) (s : State) : s.SeqFollows (s.classify p now) := by
  rcases s.classify_cases p now with ⟨_, e⟩ | ⟨_, e⟩ <;> rw [e]
  · exact .inl (State.noCtrl_output rfl s)
  · rcases s.ctrl_cases p now with ⟨_, e⟩ | ⟨seq, body, id, _, e⟩ | ⟨_, _, _, _, e⟩ <;> rw [e]
    · exact .inl (s.noCtrl_emit _)
    · exact .inr (s.oneCtrl_control _ seq _ now)
    · exact .inl (s.noCtrl_emit _)

theorem State.judge_seqFollows (b : Byte) (now : Rat) (s : State) : s.SeqFollows (s.judge b now) := by
  rcases s.judge_cases b now with ⟨_, e⟩ | ⟨_, _, _, _, e⟩ | ⟨hdr, rest, _, _, e⟩ <;> rw [e]
  · exact .inl (s.noCtrl_emit _)
  · exact .inl (s.noCtrl_emit _)
  · exact (State.noCtrl_output rfl s).seqFollows (State.classify_seqFollows ⟨hdr, rest⟩ now _)

/-- The rows before the trailing byte output nothing. -/
theorem State.rxByte_seqFollows (b : Byte) (now : Rat) (s : State) : s.SeqFollows (s.rxByte b now) := by
  rcases s.rxByte_cases b now with ⟨_, _, e⟩ | ⟨_, _, e⟩ | ⟨_, e⟩ | ⟨_, _, e⟩ | ⟨_, _, _, _, e⟩ | ⟨_, _, _, e⟩ |
    ⟨_, _, _, _, e⟩ | ⟨_, e⟩ <;> rw [e]
  on_goal 8 => exact s.judge_seqFollows b now
  all_goals exact .inl ⟨rfl, rfl⟩

theorem State.noCtrl_realtime (ts : Word) (sid : StreamId) (s : State) : s.NoCtrl (s.realtime ts sid) := by
  rcases s.realtime_cases ts sid with ⟨_, e⟩ | ⟨_, ticks, seconds, _, _, e⟩ <;> rw [e]
  · exact s.noCtrl_emit _
  · exact (s.noCtrl_emitIf _ _).trans (State.noCtrl_output rfl (State.recordTime sid seconds ts _))

theorem State.noCtrl_sendFrame (id : MsgId) (value : Option Word) (s : State) : s.NoCtrl (s.sendFrame id value) :=
  State.noCtrl_output rfl s.advanceSeq

/-- R185 for a step whose event is not RESET. -/
theorem step_seqFollows {s t : State} (stepped : step s = .next t) (no_reset : ∀ rest, s.inbox ≠ .reset :: rest) :
    s.SeqFollows t := by
  rcases step_cases stepped with ⟨_, rfl⟩ | ⟨e, rest, presented, runs⟩
  · exact .inl t.noCtrl_refl
  · cases e with
    | reset => exact absurd presented (no_reset rest)
    | rxbyte b now => cases runs; exact State.rxByte_seqFollows b now { s with inbox := rest }
    | setverify | cksum => cases runs; exact .inl ⟨rfl, rfl⟩
    | realtime ts sid => cases runs; exact .inl (State.noCtrl_realtime ts sid { s with inbox := rest })
    | send m value =>
      rcases execSend_cases runs with ⟨_, rfl⟩ | ⟨id, _, rfl⟩
      · exact .inl (State.noCtrl_emit (.unknownMessageName m) { s with inbox := rest })
      · exact .inl (State.noCtrl_sendFrame id value { s with inbox := rest })

/-- Outputs are only appended, so the control packets of a step are those of its new outputs. -/
theorem ctrlSeqsOf_newOutputs {s t : State} (appended : s.outs <+: t.outs) :
    ctrlSeqsOf t.outs = ctrlSeqsOf s.outs ++ ctrlSeqsOf (newOutputs s t) := by
  obtain ⟨more, outs⟩ := appended
  simp [newOutputs, ← outs]

/-- Settles O55: the sequence bytes of the step's control packets are none or `lastSeq` alone. -/
theorem lastSeqFollowsTheControlPackets : Obligations.LastSeqFollowsTheControlPackets := by
  intro s t stepped no_reset
  have split := ctrlSeqsOf_newOutputs (outputsAreOnlyAppended.2 s t stepped)
  rcases step_seqFollows stepped no_reset with ⟨same, kept⟩ | one
  · have no_seq : ctrlSeqsOf (newOutputs s t) = [] := by simpa [same] using split
    refine ⟨fun id seq words packet => ?_, fun _ => kept⟩
    have mem := mem_ctrlSeqsOf.2 ⟨id, words, packet⟩
    simp [no_seq] at mem
  · have one_seq : ctrlSeqsOf (newOutputs s t) = [t.lastSeq] := by
      rw [State.OneCtrl] at one
      exact (List.append_cancel_left (one.symm.trans split)).symm
    refine ⟨fun id seq words packet => ?_, fun silent => ?_⟩
    · have mem := mem_ctrlSeqsOf.2 ⟨id, words, packet⟩
      rw [one_seq, List.mem_singleton] at mem
      exact mem.symm
    · obtain ⟨id, words, packet⟩ := mem_ctrlSeqsOf.1 (one_seq ▸ List.mem_singleton_self t.lastSeq)
      exact absurd packet (silent id t.lastSeq words)

end Sys2Proof.Machine
end

section
/-! PROOFS. 44_clock.md: the first and a later SYNC as exact next states (R231 to R237), the four cases of REALTIME
(R241 to R247), and which events write the clock (R249). -/

namespace Sys2Proof.Machine

/-! ### The first SYNC (R231) -/

theorem exec_clockSync (t : Word) (now : Rat) (s : State) :
    exec (.clockSync t now) s = .next ((s.clockSync t now).withResult .none) := rfl

/-- Settles O43: the flag selects the first SYNC. -/
theorem firstSyncSeedsTheClock : Obligations.FirstSyncSeedsTheClock := by
  intro s t now unsynced
  rcases s.clockSync_cases t now with ⟨_, e⟩ | ⟨synced, _⟩
  · rw [exec_clockSync, e]
    rfl
  · rw [unsynced] at synced
    cases synced

/-! ### A later SYNC (R232 to R235) -/

theorem elapsedTicks_eq (last t : Word) : elapsedTicks last t =
    if last.toNat ≤ t.toNat then t.toNat - last.toNat else t.toNat + (2 ^ 32 - 1 - last.toNat) := rfl

theorem elapsedTicks_le (last t : Word) : elapsedTicks last t ≤ 2 ^ 32 - 1 := by
  have := t.isLt
  rw [elapsedTicks_eq]
  split <;> omega

theorem outOfWindow_iff (P : Params) (elapsed : Nat) :
    outOfWindow P elapsed = true ↔ |(elapsed : Int) - P.syncPeriod| > P.syncTol := decide_eq_true_iff

/-- Truncation toward zero is the ceiling of a non-positive rational (00_scope.md R12). -/
theorem truncRat_of_nonpos {q : Rat} (h : q ≤ 0) : truncRat q = ⌈q⌉ := by
  have odd := truncRat_neg q
  rw [truncRat_of_nonneg (neg_nonneg.2 h), Int.floor_neg] at odd
  omega

theorem truncRat_eq_ite (q : Rat) : truncRat q = if 0 ≤ q then ⌊q⌋ else ⌈q⌉ := by
  split
  next h => exact truncRat_of_nonneg h
  next h => exact truncRat_of_nonpos (not_le.1 h).le

/-- Emitting on a condition writes `outs` alone. -/
theorem State.emitIf_eq (c : Bool) (e : Ev) (s : State) :
    s.emitIf c e = { s with outs := s.outs ++ if c then [.ev e] else [] } := by
  cases c with
  | true => rfl
  | false => simp [State.emitIf]

/-- The state after the accumulation of a later SYNC (R232, R233), on which the sanity check and the drift correction
work. -/
def State.accumulated (t : Word) (s : State) : State := s.accumulate t (elapsedTicks s.lastSyncTs t)

theorem State.accumulated_tickAcc_toNat (t : Word) (s : State) :
    (s.accumulated t).tickAcc.toNat = (s.tickAcc.toNat + elapsedTicks s.lastSyncTs t) % 2 ^ 64 :=
  BitVec.toNat_ofNat _ _

theorem State.drift_eq (now : Rat) (s : State) :
    s.drift now = (s.tickAcc.toNat : Rat) / s.par.clockHz - (now - s.firstSyncWall) := by
  simp [State.drift, secondsOf]

/-- The ticks that the drift correction subtracts (R235). -/
def State.driftTicks (now : Rat) (s : State) : Int := truncRat (s.drift now * s.par.clockHz)

/-- R235's clamp at zero and reduction modulo 2^64. -/
theorem State.adjust_tickAcc_toNat (adj : Int) (s : State) :
    ((s.adjust adj).tickAcc.toNat : Int) = max 0 ((s.tickAcc.toNat : Int) - adj) % 2 ^ 64 := by
  rw [State.adjust_tickAcc, BitVec.toNat_ofNat]
  omega

/-- The event of the sanity check (R234). -/
def State.windowReport (t : Word) (s : State) : List Output :=
  if outOfWindow s.par (elapsedTicks s.lastSyncTs t) then [.ev (.syncOutOfWindow (elapsedTicks s.lastSyncTs t))] else []

/-- What a later SYNC can do (R232 to R235): the exact next state without and with a drift correction. -/
theorem exec_laterSync_cases {s u : State} {t : Word} {now : Rat} (synced : s.synced = true)
    (runs : exec (.clockSync t now) s = .next u) :
    (|(s.accumulated t).drift now| ≤ 1 ∧
      u = { s.accumulated t with outs := s.outs ++ s.windowReport t, result := .none }) ∨
    (1 < |(s.accumulated t).drift now| ∧
      u = { (s.accumulated t).adjust ((s.accumulated t).driftTicks now) with
        outs := s.outs ++ s.windowReport t ++
          [.ev (.driftCorrected ((s.accumulated t).drift now) ((s.accumulated t).driftTicks now))]
        result := .none }) := by
  have checked : s.laterSync t now =
      State.correctDrift now { s.accumulated t with outs := s.outs ++ s.windowReport t } :=
    congrArg (State.correctDrift now) (State.emitIf_eq _ _ _)
  rcases s.clockSync_cases t now with ⟨unsynced, _⟩ | ⟨_, later⟩
  · rw [synced] at unsynced
    cases unsynced
  · rw [exec_clockSync, later, checked] at runs
    rcases State.correctDrift_cases now { s.accumulated t with outs := s.outs ++ s.windowReport t } with
      ⟨small, e⟩ | ⟨large, e⟩ <;> rw [e] at runs <;> cases runs
    · exact .inl ⟨small, rfl⟩
    · exact .inr ⟨large, rfl⟩

/-- Settles O44: without and with a correction the next state is known, and the arithmetic is that of the rules. -/
theorem laterSyncAccumulatesChecksAndCorrects : Obligations.LaterSyncAccumulatesChecksAndCorrects := by
  intro s t now synced elapsed acc drift scaled adj
  have acc_eq : (s.accumulated t).tickAcc.toNat = acc := s.accumulated_tickAcc_toNat t
  have drift_eq : (s.accumulated t).drift now = drift := by rw [State.drift_eq, acc_eq]; rfl
  have adj_eq : (s.accumulated t).driftTicks now = adj := by
    rw [State.driftTicks, drift_eq]
    exact truncRat_eq_ite scaled
  have window : s.windowReport t =
      if |(elapsed : Int) - s.par.syncPeriod| > s.par.syncTol then [.ev (.syncOutOfWindow elapsed)] else [] := by
    simp only [State.windowReport, outOfWindow_iff]
    rfl
  refine ⟨_, rfl, ?_⟩
  rcases exec_laterSync_cases synced (exec_clockSync t now s) with ⟨small, e⟩ | ⟨large, e⟩ <;> rw [e]
  · have small' : ¬|drift| > 1 := by rwa [← drift_eq, gt_iff_lt, not_lt]
    refine ⟨fun large => absurd large small', fun _ => acc_eq, ?_, rfl, elapsedTicks_le s.lastSyncTs t⟩
    rw [if_neg small', List.append_nil, ← window]
  · have large' : |drift| > 1 := by rwa [← drift_eq]
    refine ⟨fun _ => ?_, fun small => absurd large' small, ?_, rfl, elapsedTicks_le s.lastSyncTs t⟩
    · rw [← acc_eq, ← adj_eq]
      exact State.adjust_tickAcc_toNat _ _
    · rw [if_pos large', ← window, ← drift_eq, ← adj_eq]

/-- The sanity check reports no drift correction. -/
theorem State.driftCorrected_not_mem_windowReport (d : Rat) (a : Int) (t : Word) (s : State) :
    .ev (.driftCorrected d a) ∉ s.windowReport t := by
  unfold State.windowReport
  split <;> simp

/-- A correction to within one tick of a representable tick count is neither clamped nor wrapped. -/
theorem State.adjust_tickAcc_of_near {s : State} {adj : Int} {wall : Rat} (forward : 0 ≤ wall)
    (fits : wall < 2 ^ 64 - 1) (near : |((s.tickAcc.toNat - adj : Int) : Rat) - wall| < 1) :
    ((s.adjust adj).tickAcc.toNat : Int) = s.tickAcc.toNat - adj := by
  obtain ⟨above, below⟩ := abs_lt.1 near
  have not_clamped : -1 < (s.tickAcc.toNat : Int) - adj := by
    have : (-1 : Rat) < ((s.tickAcc.toNat - adj : Int) : Rat) := by linarith
    exact_mod_cast this
  have not_wrapped : (s.tickAcc.toNat : Int) - adj < 2 ^ 64 := by
    have : ((s.tickAcc.toNat - adj : Int) : Rat) < 2 ^ 64 := by linarith
    exact_mod_cast this
  rw [State.adjust_tickAcc_toNat]
  omega

/-- R235: what a correction leaves is the wall clock's ticks plus what the truncation dropped. -/
theorem State.adjust_driftTicks_near_wall {s : State} {now : Rat} (hz : 0 < s.par.clockHz)
    (forward : 0 ≤ now - s.firstSyncWall) (fits : (now - s.firstSyncWall) * s.par.clockHz < 2 ^ 64 - 1) :
    |((s.adjust (s.driftTicks now)).tickAcc.toNat : Rat) - (now - s.firstSyncWall) * s.par.clockHz| < 1 := by
  have hz_pos : (0 : Rat) < s.par.clockHz := by exact_mod_cast hz
  have scaled : s.drift now * s.par.clockHz = s.tickAcc.toNat - (now - s.firstSyncWall) * s.par.clockHz := by
    rw [State.drift_eq, sub_mul, div_mul_cancel₀ _ hz_pos.ne']
  have near : |((s.tickAcc.toNat - s.driftTicks now : Int) : Rat) - (now - s.firstSyncWall) * s.par.clockHz| < 1 := by
    have truncated : |s.drift now * s.par.clockHz - s.driftTicks now| < 1 := abs_sub_truncRat_lt _
    rw [scaled, sub_right_comm] at truncated
    exact_mod_cast truncated
  have adjusted := State.adjust_tickAcc_of_near (mul_nonneg forward hz_pos.le) fits near
  rwa [← adjusted, Int.cast_natCast] at near

/-- Settles O45: only a correction reports one. -/
theorem driftCorrectionMeetsTheWallClock : Obligations.DriftCorrectionMeetsTheWallClock := by
  intro s u t now synced hz forward fits runs ⟨d, a, reported⟩
  rcases exec_laterSync_cases synced runs with ⟨_, rfl⟩ | ⟨_, rfl⟩
  · rw [newOutputs, List.drop_left] at reported
    exact absurd reported (State.driftCorrected_not_mem_windowReport d a t s)
  · exact State.adjust_driftTicks_near_wall (s := s.accumulated t) hz forward fits

/-- Settles O46: without a correction the accumulator holds the sum, which does not wrap. -/
theorem accumulatorNeverFallsWithoutCorrection : Obligations.AccumulatorNeverFallsWithoutCorrection := by
  intro s u t now synced room runs silent
  rcases exec_laterSync_cases synced runs with ⟨_, rfl⟩ | ⟨_, rfl⟩
  · have acc := s.accumulated_tickAcc_toNat t
    have le := elapsedTicks_le s.lastSyncTs t
    rw [Nat.mod_eq_of_lt (by omega)] at acc
    constructor <;> simp only [acc] <;> omega
  · exact absurd (by simp [newOutputs]) (silent ((s.accumulated t).drift now) ((s.accumulated t).driftTicks now))

/-! ### REALTIME (R241 to R247) -/

/-- R241. -/
theorem realtimeDelta_after {last ts : Word} (after : last.toNat ≤ ts.toNat) (near : ts.toNat - last.toNat ≤ 2 ^ 31) :
    realtimeDelta last ts = (ts.toNat : Int) - last.toNat := by
  simp only [realtimeDelta, halfSpace, if_pos after]
  omega

/-- R242. -/
theorem realtimeDelta_rollover {last ts : Word} (before : ts.toNat < last.toNat)
    (far : 2 ^ 31 < last.toNat - ts.toNat) :
    realtimeDelta last ts = (ts.toNat : Int) + (2 ^ 32 - 1 - last.toNat) := by
  have := last.isLt
  simp only [realtimeDelta, halfSpace, rollAdd, if_neg (not_le.2 before), gt_iff_lt, if_pos far]
  omega

/-- R243. -/
theorem realtimeDelta_before {last ts : Word} (before : ts.toNat < last.toNat)
    (near : last.toNat - ts.toNat ≤ 2 ^ 31) :
    realtimeDelta last ts = (ts.toNat : Int) - last.toNat := by
  simp only [realtimeDelta, halfSpace, if_neg (not_le.2 before)]
  omega

/-- R244. -/
theorem realtimeDelta_old {last ts : Word} (after : last.toNat ≤ ts.toNat) (far : 2 ^ 31 < ts.toNat - last.toNat) :
    realtimeDelta last ts = (ts.toNat : Int) - last.toNat - 2 ^ 32 := by
  simp only [realtimeDelta, halfSpace, tickSpace, if_pos after, gt_iff_lt, if_pos far]
  omega

/-- R241 to R244: the distance is at most half the tick space. -/
theorem realtimeDelta_range (last ts : Word) : -2 ^ 31 ≤ realtimeDelta last ts ∧ realtimeDelta last ts ≤ 2 ^ 31 := by
  have := last.isLt
  have := ts.isLt
  rcases le_or_gt last.toNat ts.toNat with after | before
  · rcases le_or_gt (ts.toNat - last.toNat) (2 ^ 31) with near | far
    · rw [realtimeDelta_after after near]; omega
    · rw [realtimeDelta_old after far]; omega
  · rcases le_or_gt (last.toNat - ts.toNat) (2 ^ 31) with near | far
    · rw [realtimeDelta_before before near]; omega
    · rw [realtimeDelta_rollover before far]; omega

theorem exec_realtime (ts : Word) (sid : StreamId) (s : State) :
    exec (.realtime ts sid) s = .next ((s.realtime ts sid).withResult .none) := rfl

theorem regressed_iff (previous seconds : Rat) : regressed previous seconds = true ↔ previous - seconds > 1 / 2 :=
  decide_eq_true_iff

/-- REALTIME when synced (R245): the regression check and the output write `outs`, the table update the tables. -/
theorem State.realtime_of_synced {s : State} {ticks : Int} {seconds : Rat} (synced : s.synced = true) {ts : Word}
    (ticks_eq : ticks = s.tickAcc.toNat + realtimeDelta s.lastSyncTs ts)
    (seconds_eq : seconds = (ticks : Rat) / s.par.clockHz) (sid : StreamId) :
    s.realtime ts sid = { s.recordTime sid seconds ts with
      outs := s.outs ++
        (if s.lastRealTimeOf sid - seconds > 1 / 2 then
          [.ev (.timeRegression sid (s.lastRealTimeOf sid) seconds (s.lastDevTsOf sid) ts)] else []) ++
        [.rt sid ticks seconds] } := by
  rcases s.realtime_cases ts sid with ⟨unsynced, _⟩ | ⟨_, _, _, rfl, rfl, e⟩
  · rw [synced] at unsynced
    cases unsynced
  · subst ticks_eq seconds_eq
    rw [e, State.emitIf_eq]
    simp only [regressed_iff]
    rfl

/-- Settles O47: the distance has a lemma for each case, and the exact next state gives the outputs and the tables. -/
theorem realtimeFollowsItsFourCases : Obligations.RealtimeFollowsItsFourCases := by
  intro s ts sid synced
  refine ⟨realtimeDelta s.lastSyncTs ts, _, exec_realtime ts sid s, ⟨?_, ?_, ?_, ?_⟩,
    realtimeDelta_range s.lastSyncTs ts, ?_⟩
  · intro after near
    exact realtimeDelta_after (by omega) (by omega)
  · intro before far
    rw [realtimeDelta_rollover (by omega) (by omega)]
    omega
  · intro before near
    exact realtimeDelta_before (by omega) (by omega)
  · intro after far
    have := ts.isLt
    rw [realtimeDelta_old (by omega) (by omega)]
    omega
  · rw [State.realtime_of_synced synced rfl rfl]
    refine ⟨?_, rfl⟩
    intro ticks seconds
    exact ⟨rfl, fun k => s.lastRealTimeOf_recordTime sid k seconds ts,
      fun k => s.lastDevTsOf_recordTime sid k seconds ts⟩

/-! ### Who writes the clock (R249) -/

theorem State.syncRegsSame_refl (s : State) : s.SyncRegsSame s := ⟨rfl, rfl, rfl, rfl⟩

/-- A control packet writes the clock only as `sync` with a word (43_packet_decode.md R199). -/
theorem State.control_clock_cases (id : MsgId) (seq : Byte) (words : List Word) (now : Rat) (s : State) :
    s.SyncRegsSame (s.control id seq words now) ∨ (id = 13 ∧ words ≠ []) := by
  by_cases sync : id = 13
  · subst sync
    rw [State.control_sync]
    rcases (s.deliver 13 seq words).syncPacket_cases words now with ⟨_, e⟩ | ⟨t, more, rfl, _⟩
    · rw [e]
      exact .inl s.syncRegsSame_refl
    · exact .inr ⟨rfl, List.cons_ne_nil t more⟩
  · rw [State.control_of_ne sync]
    exact .inl s.syncRegsSame_refl

theorem State.classify_clock_cases (p : Payload) (now : Rat) (s : State) :
    s.SyncRegsSame (s.classify p now) ∨ IsSyncWithWord p.bytes := by
  rcases s.classify_cases p now with ⟨_, e⟩ | ⟨_, e⟩ <;> rw [e]
  · exact .inl s.syncRegsSame_refl
  · rcases s.ctrl_cases p now with ⟨_, e⟩ | ⟨seq, body, id, rest, e⟩ | ⟨_, _, _, _, e⟩ <;> rw [e]
    · exact .inl s.syncRegsSame_refl
    · refine (s.control_clock_cases ⟨p.hdr.toNat, id⟩ seq (wordsOf body) now).imp_right fun ⟨sync, word⟩ => ?_
      have hdr : p.hdr = 13 := BitVec.eq_of_toNat_eq (congrArg Fin.val sync :)
      rw [Payload.bytes, rest]
      exact (isSyncWithWord_cons_iff p.hdr seq body).2 ⟨hdr, word⟩
    · exact .inl s.syncRegsSame_refl

/-- The trailing byte writes the clock only if it accepts a frame that holds a sync packet with a word. -/
theorem State.judge_clock_cases (b : Byte) (now : Rat) (s : State) :
    s.SyncRegsSame (s.judge b now) ∨ ((s.verifyEn = true → b = 0 ∨ b = s.cks) ∧ IsSyncWithWord s.pay) := by
  rcases s.judge_cases b now with ⟨_, e⟩ | ⟨_, _, _, _, e⟩ | ⟨hdr, rest, pay, accepted, e⟩ <;> rw [e]
  · exact .inl s.syncRegsSame_refl
  · exact .inl s.syncRegsSame_refl
  · refine ((s.output (.frame (hdr :: rest))).classify_clock_cases ⟨hdr, rest⟩ now).imp_right fun sync => ⟨?_, ?_⟩
    · intro verify
      by_contra mismatch
      exact accepted ⟨verify, not_or.1 mismatch⟩
    · rwa [pay]

theorem State.rxByte_clock_cases (b : Byte) (now : Rat) (s : State) :
    s.SyncRegsSame (s.rxByte b now) ∨
    (s.st = .readTrail ∧ (s.verifyEn = true → b = 0 ∨ b = s.cks) ∧ IsSyncWithWord s.pay) := by
  rcases s.rxByte_cases b now with ⟨_, _, e⟩ | ⟨_, _, e⟩ | ⟨_, e⟩ | ⟨_, _, e⟩ | ⟨_, _, _, _, e⟩ | ⟨_, _, _, e⟩ |
    ⟨_, _, _, _, e⟩ | ⟨trail, e⟩ <;> rw [e]
  on_goal 8 => exact (s.judge_clock_cases b now).imp_right fun sync => ⟨trail, sync⟩
  all_goals exact .inl s.syncRegsSame_refl

/-- Settles O53, by the input events: RXBYTE by what a received byte can do to the clock, SEND by its two answers. -/
theorem clockChangesOnlyBySyncRealtimeReset : Obligations.ClockChangesOnlyBySyncRealtimeReset := by
  intro s t stepped
  rcases step_cases stepped with ⟨_, rfl⟩ | ⟨e, rest, presented, runs⟩
  · exact .inl ⟨t.syncRegsSame_refl, rfl, rfl⟩
  · cases e with
    | reset => exact .inr (.inl ⟨rest, presented⟩)
    | setverify | cksum => cases runs; exact .inl ⟨s.syncRegsSame_refl, rfl, rfl⟩
    | send m value =>
      rcases execSend_cases runs with ⟨_, rfl⟩ | ⟨_, _, rfl⟩ <;> exact .inl ⟨s.syncRegsSame_refl, rfl, rfl⟩
    | realtime ts sid =>
      cases runs
      rcases State.realtime_cases ts sid { s with inbox := rest } with ⟨_, e⟩ | ⟨synced, _⟩
      · rw [e]
        exact .inl ⟨s.syncRegsSame_refl, rfl, rfl⟩
      · exact .inr (.inr (.inl ⟨ts, sid, rest, presented, synced, by simp [State.SyncRegsSame]⟩))
    | rxbyte b now =>
      cases runs
      have tables : s.TableSame ((State.rxByte b now { s with inbox := rest }).withResult .none) :=
        ⟨State.rxByte_lastRealTime b now _, State.rxByte_lastDevTs b now _⟩
      rcases State.rxByte_clock_cases b now { s with inbox := rest } with kept | ⟨trail, accepted, sync⟩
      · exact .inl ⟨kept, tables⟩
      · exact .inr (.inr (.inr ⟨b, now, rest, presented, trail, accepted, sync, tables⟩))

end Sys2Proof.Machine
end

section
/-! PROOFS. 60_exceptions.md: the codes and levels of the event table (R261), and REALTIME before the first sync
(R271). -/

namespace Sys2Proof.Machine

/-! ### The event table (R261) -/

/-- The codes whose row of the table has the level `error`. -/
theorem Ev.level_eq_error_iff (e : Ev) : e.level = .error ↔ e.code ∈ ([0x04, 0x11, 0x13, 0x20] : List Byte) := by
  cases e <;> simp [Ev.level, Ev.code]

/-- Settles O58: each code is its row of the table, and the rows of level `error` are known by their codes. -/
theorem eventsHaveTheirCodesAndLevels : Obligations.EventsHaveTheirCodesAndLevels :=
  ⟨rfl, fun _ _ _ => rfl, fun _ => rfl, fun _ _ => rfl, rfl, fun _ => rfl, fun _ _ => rfl, fun _ _ _ _ _ => rfl,
    fun _ _ => rfl, fun _ => rfl, Ev.level_eq_error_iff⟩

/-! ### REALTIME before the first sync (R271) -/

/-- REALTIME when not synced. -/
theorem State.realtime_of_unsynced {s : State} (unsynced : s.synced = false) (ts : Word) (sid : StreamId) :
    s.realtime ts sid = s.emit (.notSynced ts sid) := by
  rcases s.realtime_cases ts sid with ⟨_, e⟩ | ⟨synced, _⟩
  · exact e
  · rw [unsynced] at synced
    cases synced

/-- Settles O48: the operation only emits the event, and emitting appends it to the outputs. -/
theorem realtimeBeforeSyncOnlyReports : Obligations.RealtimeBeforeSyncOnlyReports := by
  intro s ts sid unsynced
  rw [exec_realtime, State.realtime_of_unsynced unsynced]
  rfl

end Sys2Proof.Machine
end

section
/-! PROOFS. 70_reset_and_hazards.md: RESET (R290, R293), what is fixed for a run (R294), the resynchronising sequence
(R297), and the tick lost at a rollover (R300). -/

namespace Sys2Proof.Machine

/-! ### RESET (R290, R293) -/

theorem exec_reset (s : State) : exec .reset s = .next (s.resetRegs.withResult .none) := rfl

/-- R293: RESET reads nothing that an earlier RESET wrote. -/
theorem State.resetRegs_resetRegs (r : Result) (s : State) :
    (s.resetRegs.withResult r).resetRegs = s.resetRegs.withResult r := rfl

/-- Settles O12: the registers are those of the reset state, and the per-stream tables have its entries (O11). -/
theorem resetEventRestoresEveryRegister : Obligations.ResetEventRestoresEveryRegister := by
  intro s
  obtain ⟨_, _, _, _, _, _, _, _, _, _, tables, _⟩ := resetStateValues
  refine ⟨_, exec_reset s, rfl, rfl, rfl, rfl, rfl, rfl, rfl, rfl, rfl, rfl, tables, rfl, rfl, rfl, rfl, rfl, rfl, ?_⟩
  rw [exec_reset, State.resetRegs_resetRegs]
  rfl

/-! ### What no instruction changes (R294, 10_state.md R38) -/

/-- Only the fetch of a step takes an input event, and nothing writes the parameters. -/
theorem exec_keeps_par_inbox {i : Instr} {s t : State} (h : exec i s = .next t) :
    t.par = s.par ∧ t.inbox = s.inbox := by
  cases i with
  | send => rcases execSend_cases h with ⟨_, rfl⟩ | ⟨_, _, rfl⟩ <;> exact ⟨rfl, rfl⟩
  | ctrlUnassigned => rw [execCtrlUnassigned_cases h]; exact ⟨rfl, rfl⟩
  | byteEOP => rw [exec_token_cases (.inl rfl) h]; simp
  | byteESC => rw [exec_token_cases (.inr (.inl rfl)) h]; simp
  | byteDATA => rw [exec_token_cases (.inr (.inr rfl)) h]; simp
  | rxbyte | scan | sync | classify | ctrl | clockSync | realtime => cases h; simp
  | _ => cases h; exact ⟨rfl, rfl⟩

/-- Settles O51: a step waits, with no event to take, or runs the first event with the others presented. -/
theorem parametersAndPendingEventsAreKept : Obligations.ParametersAndPendingEventsAreKept := by
  refine ⟨fun _ _ _ => exec_keeps_par_inbox, fun s t stepped => ?_⟩
  rcases step_cases stepped with ⟨none, rfl⟩ | ⟨e, rest, presented, runs⟩
  · rw [none]
    exact ⟨rfl, rfl⟩
  · rw [presented]
    exact exec_keeps_par_inbox runs

/-! ### The tick lost at a rollover (R300) -/

/-- A signed distance that differs from `t - last` by a multiple of the tick space is `t - last` in 32 bits. -/
theorem ofInt_eq_sub_of_modEq {last t : Word} {d : Int} (h : d ≡ (t.toNat : Int) - last.toNat [ZMOD 2 ^ 32]) :
    BitVec.ofInt 32 d = t - last := by
  have key : (t.toNat : Int) - last.toNat ≡ (2 ^ 32 - last.toNat + t.toNat : Nat) [ZMOD 2 ^ 32] := by
    have := last.isLt
    rw [Int.modEq_iff_dvd]
    exact ⟨1, by omega⟩
  apply BitVec.eq_of_toNat_eq
  rw [BitVec.toNat_ofInt, BitVec.toNat_sub]
  have := h.trans key
  unfold Int.ModEq at this
  omega

/-- R232 without rollover. -/
theorem elapsedTicks_exact {last t : Word} (after : last.toNat ≤ t.toNat) :
    elapsedTicks last t = (t - last).toNat := by
  rw [elapsedTicks_eq, if_pos after]
  bv_omega

/-- R232's rollover arm. -/
theorem elapsedTicks_rollover {last t : Word} (before : t.toNat < last.toNat) :
    elapsedTicks last t + 1 = (t - last).toNat := by
  rw [elapsedTicks_eq, if_neg (not_le.2 before)]
  bv_omega

/-- Settles O49: the case 2 constant is one short of the tick space, and the case 4 constant is the tick space. -/
theorem eachRolloverLosesOneTick : Obligations.EachRolloverLosesOneTick := by
  refine fun last t => ⟨elapsedTicks_exact, elapsedTicks_rollover, fun before far => ?_, fun exact_case => ?_⟩
  · rw [realtimeDelta_rollover before far]
    exact ofInt_eq_sub_of_modEq (Int.modEq_iff_dvd.2 ⟨-1, by omega⟩)
  · rcases le_or_gt last.toNat t.toNat with after | before
    · rcases le_or_gt (t.toNat - last.toNat) (2 ^ 31) with near | far
      · rw [realtimeDelta_after after near]
        exact ofInt_eq_sub_of_modEq rfl
      · rw [realtimeDelta_old after far]
        exact ofInt_eq_sub_of_modEq (Int.modEq_iff_dvd.2 ⟨1, by omega⟩)
    · rw [realtimeDelta_before before (exact_case.resolve_left (not_le.2 before))]
      exact ofInt_eq_sub_of_modEq rfl

/-! ### How many frames complete (42_scanner.md R158) -/

/-- How many outputs so far end a frame. -/
def State.completions (s : State) : Nat := s.outs.countP isCompletion

theorem State.countP_newOutputs {s t : State} (appended : s.outs <+: t.outs) :
    s.completions + (newOutputs s t).countP isCompletion = t.completions := by
  obtain ⟨more, appended⟩ := appended
  simp [State.completions, newOutputs, ← appended]

theorem State.completions_output (o : Output) (s : State) :
    (s.output o).completions = s.completions + if isCompletion o then 1 else 0 := by
  simp [State.completions, List.countP_append, List.countP_singleton]

/-- An item that ends no frame. -/
theorem State.completions_output_other {o : Output} (other : isCompletion o = false) (s : State) :
    (s.output o).completions = s.completions := by
  rw [State.completions_output, other]
  rfl

theorem State.completions_emitIf {e : Ev} (other : isCompletion (.ev e) = false) (c : Bool) (s : State) :
    (s.emitIf c e).completions = s.completions := by
  cases c with
  | true => exact State.completions_output_other other s
  | false => rfl

theorem State.completions_correctDrift (now : Rat) (s : State) :
    (s.correctDrift now).completions = s.completions := by
  rcases s.correctDrift_cases now with ⟨_, e⟩ | ⟨_, e⟩ <;> rw [e]
  exact State.completions_output_other rfl _

theorem State.completions_clockSync (t : Word) (now : Rat) (s : State) :
    (s.clockSync t now).completions = s.completions := by
  rcases s.clockSync_cases t now with ⟨_, e⟩ | ⟨_, e⟩ <;> rw [e]
  · rfl
  · exact (State.completions_correctDrift now _).trans (State.completions_emitIf rfl _ _)

theorem State.completions_control (id : MsgId) (seq : Byte) (words : List Word) (now : Rat) (s : State) :
    (s.control id seq words now).completions = s.completions := by
  have delivered : (s.deliver id seq words).completions = s.completions := State.completions_output_other rfl _
  by_cases sync : id = 13
  · subst sync
    rw [State.control_sync]
    rcases (s.deliver 13 seq words).syncPacket_cases words now with ⟨_, e⟩ | ⟨t, more, _, e⟩ <;> rw [e]
    · exact (State.completions_output_other rfl _).trans delivered
    · exact (State.completions_clockSync t now _).trans delivered
  · rw [State.control_of_ne sync, delivered]

/-- The packet decoder ends no frame. -/
theorem State.completions_classify (p : Payload) (now : Rat) (s : State) :
    (s.classify p now).completions = s.completions := by
  rcases s.classify_cases p now with ⟨_, e⟩ | ⟨_, e⟩ <;> rw [e]
  · exact State.completions_output_other rfl s
  · rcases s.ctrl_cases p now with ⟨_, e⟩ | ⟨seq, body, id, _, e⟩ | ⟨_, _, _, _, e⟩ <;> rw [e]
    · exact State.completions_output_other rfl s
    · exact s.completions_control _ seq _ now
    · exact State.completions_output_other rfl s

/-- R159 to R161: each arm ends the frame once. -/
theorem State.completions_judge (b : Byte) (now : Rat) (s : State) :
    (s.judge b now).completions = s.completions + 1 := by
  rcases s.judge_cases b now with ⟨_, e⟩ | ⟨_, _, _, _, e⟩ | ⟨_, _, _, _, e⟩ <;> rw [e]
  · exact State.completions_output _ s
  · exact State.completions_output _ s
  · rw [State.completions_classify]
    exact State.completions_output _ s

theorem State.completions_rxByte_trail {s : State} (trail : s.st = .readTrail) (b : Byte) (now : Rat) :
    (s.rxByte b now).completions = s.completions + 1 := by
  rw [State.rxByte_trail trail]
  exact s.completions_judge b now

theorem State.completions_rxByte_of_ne_trail {s : State} (before : s.st ≠ .readTrail) (b : Byte) (now : Rat) :
    (s.rxByte b now).completions = s.completions := by
  have own : s.rxByte b now = s.scannerFrom (s.rxByte b now) := State.rxByte_scannerFrom before s b now
  rw [own]
  rfl

theorem State.completions_rxByte_le (s : State) (b : Byte) (now : Rat) :
    (s.rxByte b now).completions ≤ s.completions + 1 := by
  by_cases trail : s.st = .readTrail
  · rw [State.completions_rxByte_trail trail]
  · rw [State.completions_rxByte_of_ne_trail trail]
    exact Nat.le_succ _

/-! ### The resynchronising sequence (R297) -/

/-- The next unescaped `EOP` closes the payload in progress. -/
def State.InPayload (s : State) : Prop := s.st = .collecting ∧ s.esc = false

/-- R153, R154, R157: a `DATA` byte inside a frame, whether or not an escape is pending. -/
theorem State.rxByte_data_inPayload {s : State} {x : Byte} (inside : s.st = .readLead ∨ s.st = .collecting)
    (not_eop : x ≠ s.par.eop) (not_esc : x ≠ s.par.esc) (now : Rat) : (s.rxByte x now).InPayload := by
  rcases inside with lead | collecting
  · rw [State.rxByte_readLead lead]
    exact ⟨rfl, rfl⟩
  · cases escaped : s.esc with
    | true => rw [State.rxByte_escaped collecting escaped]; exact ⟨collecting, rfl⟩
    | false => rw [State.rxByte_data collecting escaped not_eop not_esc]; exact ⟨collecting, escaped⟩

/-- A `DATA` byte leaves two forms of the scanner: it waits for an opening `EOP`, or for a closing one. -/
theorem State.rxByte_data_seek_or_inPayload {s : State} {x : Byte} (not_eop : x ≠ s.par.eop)
    (not_esc : x ≠ s.par.esc) (now : Rat) :
    (s.rxByte x now).st = .seekStart ∨ (s.rxByte x now).InPayload := by
  cases st : s.st with
  | seekStart => rw [State.rxByte_seek_other st not_eop]; exact .inl st
  | readTrail => rw [State.rxByte_trail st]; exact .inl rfl
  | readLead => exact .inr (State.rxByte_data_inPayload (.inl st) not_eop not_esc now)
  | collecting => exact .inr (State.rxByte_data_inPayload (.inr st) not_eop not_esc now)

/-- `ESC, EOP` opens a frame, or is an escaped payload byte; in neither case does it end one. -/
theorem State.rxByte_esc_eop {s : State} (distinct : s.par.eop ≠ s.par.esc)
    (between : s.st = .seekStart ∨ s.InPayload) (now now' : Rat) :
    let u := (s.rxByte s.par.esc now).rxByte s.par.eop now'
    (u.st = .readLead ∨ u.st = .collecting) ∧ u.completions = s.completions := by
  rcases between with seek | ⟨collecting, unescaped⟩
  · have still : (s.rxByte s.par.esc now).st = .seekStart := by
      rw [State.rxByte_seek_other seek distinct.symm]
      exact seek
    constructor
    · rw [State.rxByte_seek_eop still (by simp)]
      exact .inl rfl
    · rw [State.completions_rxByte_of_ne_trail (by simp [still]), State.completions_rxByte_of_ne_trail (by simp [seek])]
  · obtain ⟨still, escaped⟩ : (s.rxByte s.par.esc now).st = .collecting ∧ (s.rxByte s.par.esc now).esc = true := by
      rw [State.rxByte_esc collecting unescaped distinct.symm rfl]
      exact ⟨collecting, rfl⟩
    constructor
    · rw [State.rxByte_escaped still escaped]
      exact .inr still
    · rw [State.completions_rxByte_of_ne_trail (by simp [still]),
        State.completions_rxByte_of_ne_trail (by simp [collecting])]

/-- The first three bytes: `x` may end an interrupted frame, and `ESC, EOP` leaves the scanner inside a frame. -/
theorem State.rxByte_data_esc_eop {s : State} (distinct : s.par.eop ≠ s.par.esc) {x : Byte} (not_eop : x ≠ s.par.eop)
    (not_esc : x ≠ s.par.esc) (n0 n1 n2 : Rat) :
    let u := ((s.rxByte x n0).rxByte s.par.esc n1).rxByte s.par.eop n2
    (u.st = .readLead ∨ u.st = .collecting) ∧ u.completions ≤ s.completions + 1 := by
  have pair := State.rxByte_esc_eop (s := s.rxByte x n0) (by simpa using distinct)
    (State.rxByte_data_seek_or_inPayload not_eop not_esc n0) n1 n2
  rw [State.rxByte_par] at pair
  obtain ⟨inside, quiet⟩ := pair
  exact ⟨inside, quiet.trans_le (s.completions_rxByte_le x n0)⟩

/-- The last three bytes: inside a frame `x` is data, so that `EOP` closes the payload and `y` ends the frame. -/
theorem State.rxByte_data_eop_any {s : State} (inside : s.st = .readLead ∨ s.st = .collecting) {x : Byte}
    (not_eop : x ≠ s.par.eop) (not_esc : x ≠ s.par.esc) (y : Byte) (n3 n4 n5 : Rat) :
    let u := ((s.rxByte x n3).rxByte s.par.eop n4).rxByte y n5
    u.st = .seekStart ∧ u.completions = s.completions + 1 := by
  have before_trail : s.st ≠ .readTrail := by rcases inside with st | st <;> simp [st]
  obtain ⟨collecting, unescaped⟩ := State.rxByte_data_inPayload inside not_eop not_esc n3
  have trail : ((s.rxByte x n3).rxByte s.par.eop n4).st = .readTrail := by
    rw [State.rxByte_close collecting unescaped (by simp)]
    rfl
  constructor
  · rw [State.rxByte_trail trail]
    rfl
  · rw [State.completions_rxByte_trail trail, State.completions_rxByte_of_ne_trail (by simp [collecting]),
      State.completions_rxByte_of_ne_trail before_trail]

/-- R297, as RXBYTE on each of the six bytes. -/
theorem State.rxAll_resync {s : State} (distinct : s.par.eop ≠ s.par.esc) {x : Byte} (not_eop : x ≠ s.par.eop)
    (not_esc : x ≠ s.par.esc) (y : Byte) (clock : Nat → Rat) :
    let t := s.rxAll (rxBytes clock [x, s.par.esc, s.par.eop, x, s.par.eop, y])
    t.st = .seekStart ∧ t.completions ≤ s.completions + 2 := by
  obtain ⟨inside, interrupted⟩ :=
    State.rxByte_data_esc_eop distinct not_eop not_esc (clock 0) (clock 1) (clock 2)
  have closing := State.rxByte_data_eop_any inside (x := x) (by simpa using not_eop) (by simpa using not_esc) y
    (clock 3) (clock 4) (clock 5)
  simp only [State.rxByte_par] at closing
  obtain ⟨seek, ended⟩ := closing
  exact ⟨seek, ended.trans_le (Nat.succ_le_succ interrupted)⟩

theorem rxBytes_cons (clock : Nat → Rat) (b : Byte) (wire : List Byte) :
    rxBytes clock (b :: wire) = ⟨b, clock 0⟩ :: rxBytes (fun k => clock (k + 1)) wire := by
  simp [rxBytes, List.mapIdx_cons]

/-- A run over the bytes of a non-empty wire is RXBYTE on each. -/
theorem run_wire (clock : Nat → Rat) (b : Byte) (wire : List Byte) (q : List Event) (r : Result) (s : State) :
    core.run (b :: wire).length (s.queued (rxEvents clock (b :: wire) ++ q) r) =
      .next ((s.rxAll (rxBytes clock (b :: wire))).queued q .none) := by
  have len : (rxBytes (fun k => clock (k + 1)) wire).length = wire.length := by simp [rxBytes]
  rw [rxEvents_eq_map, rxBytes_cons, List.length_cons, ← len, run_rxEvents]

/-- Settles O33: the run is RXBYTE on the six bytes, and its new outputs hold the completions added. -/
theorem resyncSequenceReachesSeekStart : Obligations.ResyncSequenceReachesSeekStart := by
  intro s x y clock rest ⟨distinct, _⟩ not_eop not_esc
  obtain ⟨seek, few⟩ := State.rxAll_resync distinct not_eop not_esc y clock
  have appended := s.rxAll_appends (rxBytes clock [x, s.par.esc, s.par.eop, x, s.par.eop, y])
  exact ⟨_, run_wire clock x [s.par.esc, s.par.eop, x, s.par.eop, y] rest s.result s, seek, rfl,
    Nat.le_of_add_le_add_left ((State.countP_newOutputs appended).trans_le few)⟩

end Sys2Proof.Machine
end
